-- ==== Sys2Proof/Word.lean ====
section
/-!
DEFINITION. The word types of the machine: 8-bit bytes, 16-bit words and 2-bit colour values (R8, R11 of
spec/00_scope.md; R46 of spec/10_state.md), and the type of a sparse byte memory.
-/

namespace Sys2Proof

/-- An 8-bit byte (R8). -/
abbrev Byte := BitVec 8

/-- A 16-bit word: a register pair, SP, pc or an address (R8). -/
abbrev Word := BitVec 16

/-- A 2-bit colour index or shade, 0 to 3 (R46, R303, R311). -/
abbrev Colour := BitVec 2

/-- Bytes by address, in rising order of address, listing only the bytes that differ from what an unlisted
address reads as (`Machine.Memory.unlisted`, 0x00: R52 zero-initialises all storage). -/
abbrev Memory := List Host.Cell

end Sys2Proof
end

