-- ==== Sys2Proof/Machine/Bits.lean ====
section
/-!
DEFINITION. Bit fields, pairs and extensions (R11, R12 of spec/00_scope.md).
-/

namespace Sys2Proof.Machine

/-- `hi8(w) = w[15:8]` (R11). -/
def hi8 (w : Word) : Byte := BitVec.ofNat 8 (w.toNat / 256)

/-- `lo8(w) = w[7:0]` (R11). -/
def lo8 (w : Word) : Byte := BitVec.ofNat 8 w.toNat

/-- `pair(h, l) = h × 256 + l` (R11). -/
def pair (h l : Byte) : Word := BitVec.ofNat 16 (h.toNat * 256 + l.toNat)

/-- `zext_16(v)` (R12). -/
def zext16 (v : Byte) : Word := v.setWidth 16

/-- `sext_16(v)` (R12). -/
def sext16 (v : Byte) : Word := v.signExtend 16

/-- `signed8(v)` (R12). -/
def signed8 (v : Byte) : Int := v.toInt

/-- `v[i]` of a byte (R11). -/
def bitOf (v : Byte) (i : Nat) : Bool := v.getLsbD i

/-- The byte with only bit `b` set, `1 << b`. -/
def bitMask (b : Nat) : Byte := 1 <<< b

/-- A flag as the integer 0 or 1 (R11: a comparison used as a value). -/
def bool8 (b : Bool) : Byte := if b then 1 else 0

end Sys2Proof.Machine
end

