-- ==== Sys2Proof/Syntax.lean ====
section
/-!
DEFINITION. The instructions: `Instr` has one constructor for each mnemonic of spec/opcode_table.json (502; the
eleven illegal bytes are the one constructor `illegal` with its byte, entry 12), the operand codes of
R104 to R110 of spec/30_encoding.md, and the names of the instruction families by their operand codes.
-/

namespace Sys2Proof

/-- The 8-bit registers an opcode can name; code 6 is not a register but `(HL)` (R104). -/
inductive Reg8 where
  | b | c | d | e | h | l | a
  deriving DecidableEq, Repr

/-- The 16-bit operands `rr` (R105). -/
inductive Reg16 where
  | bc | de | hl | sp
  deriving DecidableEq, Repr

/-- The 16-bit operands `qq` of PUSH and POP (R106). -/
inductive StackPair where
  | bc | de | hl | af
  deriving DecidableEq, Repr

/-- The condition codes `cc` (R107). -/
inductive Cond where
  | nz | z | nc | c
  deriving DecidableEq, Repr

/-- The arithmetic-logic operations (R108). -/
inductive AluOp where
  | add | adc | sub | sbc | and | xor | or | cp
  deriving DecidableEq, Repr

/-- The rotate-shift operations of the prefixed page (R109). -/
inductive RotOp where
  | rlc | rrc | rl | rr | sla | sra | swap | srl
  deriving DecidableEq, Repr

/-- The instructions. An argument is the immediate the instruction carries: `n` an unsigned byte, `e` a signed
displacement byte, `nn` a 16-bit value (R110). The instructions that carry one stand first (Lean's runtime numbers them
below 245). Each docstring gives the encoding, the assembler text and the rule. -/
inductive Instr where
  /-- `01 nn`: `LD BC,nn` (R160) -/
  | ldBcNn (nn : Word)
  /-- `06 n`: `LD B,n` (R131) -/
  | ldBN (n : Byte)
  /-- `08 nn`: `LD (nn),SP` (R161) -/
  | ldAtNnSp (nn : Word)
  /-- `0E n`: `LD C,n` (R131) -/
  | ldCN (n : Byte)
  /-- `10 n`: `STOP` (R282) -/
  | stop (n : Byte)
  /-- `11 nn`: `LD DE,nn` (R160) -/
  | ldDeNn (nn : Word)
  /-- `16 n`: `LD D,n` (R131) -/
  | ldDN (n : Byte)
  /-- `18 e`: `JR e` (R263) -/
  | jrDisp (e : Byte)
  /-- `1E n`: `LD E,n` (R131) -/
  | ldEN (n : Byte)
  /-- `20 e`: `JR NZ,e` (R264) -/
  | jrNzDisp (e : Byte)
  /-- `21 nn`: `LD HL,nn` (R160) -/
  | ldHlNn (nn : Word)
  /-- `26 n`: `LD H,n` (R131) -/
  | ldHN (n : Byte)
  /-- `28 e`: `JR Z,e` (R264) -/
  | jrZDisp (e : Byte)
  /-- `2E n`: `LD L,n` (R131) -/
  | ldLN (n : Byte)
  /-- `30 e`: `JR NC,e` (R264) -/
  | jrNcDisp (e : Byte)
  /-- `31 nn`: `LD SP,nn` (R160) -/
  | ldSpNn (nn : Word)
  /-- `36 n`: `LD (HL),n` (R134) -/
  | ldAtHlN (n : Byte)
  /-- `38 e`: `JR C,e` (R264) -/
  | jrCDisp (e : Byte)
  /-- `3E n`: `LD A,n` (R131) -/
  | ldAN (n : Byte)
  /-- `C2 nn`: `JP NZ,nn` (R261) -/
  | jpNzNn (nn : Word)
  /-- `C3 nn`: `JP nn` (R260) -/
  | jpNn (nn : Word)
  /-- `C4 nn`: `CALL NZ,nn` (R266) -/
  | callNzNn (nn : Word)
  /-- `C6 n`: `ADD A,n` (R172) -/
  | addAN (n : Byte)
  /-- `CA nn`: `JP Z,nn` (R261) -/
  | jpZNn (nn : Word)
  /-- `CC nn`: `CALL Z,nn` (R266) -/
  | callZNn (nn : Word)
  /-- `CD nn`: `CALL nn` (R265) -/
  | callNn (nn : Word)
  /-- `CE n`: `ADC A,n` (R175) -/
  | adcAN (n : Byte)
  /-- `D2 nn`: `JP NC,nn` (R261) -/
  | jpNcNn (nn : Word)
  /-- an illegal opcode byte (R118, R286) -/
  | illegal (op : Byte)
  /-- `D4 nn`: `CALL NC,nn` (R266) -/
  | callNcNn (nn : Word)
  /-- `D6 n`: `SUB n` (R178) -/
  | subN (n : Byte)
  /-- `DA nn`: `JP C,nn` (R261) -/
  | jpCNn (nn : Word)
  /-- `DC nn`: `CALL C,nn` (R266) -/
  | callCNn (nn : Word)
  /-- `DE n`: `SBC A,n` (R181) -/
  | sbcAN (n : Byte)
  /-- `E0 n`: `LDH (n),A` (R144) -/
  | ldhAtNA (n : Byte)
  /-- `E6 n`: `AND n` (R184) -/
  | andN (n : Byte)
  /-- `E8 e`: `ADD SP,e` (R213) -/
  | addSpDisp (e : Byte)
  /-- `EA nn`: `LD (nn),A` (R140) -/
  | ldAtNnA (nn : Word)
  /-- `EE n`: `XOR n` (R187) -/
  | xorN (n : Byte)
  /-- `F0 n`: `LDH A,(n)` (R143) -/
  | ldhAAtN (n : Byte)
  /-- `F6 n`: `OR n` (R190) -/
  | orN (n : Byte)
  /-- `F8 e`: `LD HL,SP+e` (R163) -/
  | ldHlSpDisp (e : Byte)
  /-- `FA nn`: `LD A,(nn)` (R139) -/
  | ldAAtNn (nn : Word)
  /-- `FE n`: `CP n` (R193) -/
  | cpN (n : Byte)
  /-- `00`: `NOP` (R280) -/
  | nop
  /-- `02`: `LD (BC),A` (R137) -/
  | ldAtBcA
  /-- `03`: `INC BC` (R211) -/
  | incBc
  /-- `04`: `INC B` (R194) -/
  | incB
  /-- `05`: `DEC B` (R196) -/
  | decB
  /-- `07`: `RLCA` (R220) -/
  | rlca
  /-- `09`: `ADD HL,BC` (R210) -/
  | addHlBc
  /-- `0A`: `LD A,(BC)` (R135) -/
  | ldAAtBc
  /-- `0B`: `DEC BC` (R212) -/
  | decBc
  /-- `0C`: `INC C` (R194) -/
  | incC
  /-- `0D`: `DEC C` (R196) -/
  | decC
  /-- `0F`: `RRCA` (R222) -/
  | rrca
  /-- `12`: `LD (DE),A` (R138) -/
  | ldAtDeA
  /-- `13`: `INC DE` (R211) -/
  | incDe
  /-- `14`: `INC D` (R194) -/
  | incD
  /-- `15`: `DEC D` (R196) -/
  | decD
  /-- `17`: `RLA` (R221) -/
  | rla
  /-- `19`: `ADD HL,DE` (R210) -/
  | addHlDe
  /-- `1A`: `LD A,(DE)` (R136) -/
  | ldAAtDe
  /-- `1B`: `DEC DE` (R212) -/
  | decDe
  /-- `1C`: `INC E` (R194) -/
  | incE
  /-- `1D`: `DEC E` (R196) -/
  | decE
  /-- `1F`: `RRA` (R223) -/
  | rra
  /-- `22`: `LD (HL+),A` (R148) -/
  | ldAtHlIncA
  /-- `23`: `INC HL` (R211) -/
  | incHl
  /-- `24`: `INC H` (R194) -/
  | incH
  /-- `25`: `DEC H` (R196) -/
  | decH
  /-- `27`: `DAA` (R198) -/
  | daa
  /-- `29`: `ADD HL,HL` (R210) -/
  | addHlHl
  /-- `2A`: `LD A,(HL+)` (R147) -/
  | ldAAtHlInc
  /-- `2B`: `DEC HL` (R212) -/
  | decHl
  /-- `2C`: `INC L` (R194) -/
  | incL
  /-- `2D`: `DEC L` (R196) -/
  | decL
  /-- `2F`: `CPL` (R199) -/
  | cpl
  /-- `32`: `LD (HL-),A` (R146) -/
  | ldAtHlDecA
  /-- `33`: `INC SP` (R211) -/
  | incSp
  /-- `34`: `INC (HL)` (R195) -/
  | incAtHl
  /-- `35`: `DEC (HL)` (R197) -/
  | decAtHl
  /-- `37`: `SCF` (R200) -/
  | scf
  /-- `39`: `ADD HL,SP` (R210) -/
  | addHlSp
  /-- `3A`: `LD A,(HL-)` (R145) -/
  | ldAAtHlDec
  /-- `3B`: `DEC SP` (R212) -/
  | decSp
  /-- `3C`: `INC A` (R194) -/
  | incA
  /-- `3D`: `DEC A` (R196) -/
  | decA
  /-- `3F`: `CCF` (R201) -/
  | ccf
  /-- `40`: `LD B,B` (R130) -/
  | ldBB
  /-- `41`: `LD B,C` (R130) -/
  | ldBC
  /-- `42`: `LD B,D` (R130) -/
  | ldBD
  /-- `43`: `LD B,E` (R130) -/
  | ldBE
  /-- `44`: `LD B,H` (R130) -/
  | ldBH
  /-- `45`: `LD B,L` (R130) -/
  | ldBL
  /-- `46`: `LD B,(HL)` (R132) -/
  | ldBAtHl
  /-- `47`: `LD B,A` (R130) -/
  | ldBA
  /-- `48`: `LD C,B` (R130) -/
  | ldCB
  /-- `49`: `LD C,C` (R130) -/
  | ldCC
  /-- `4A`: `LD C,D` (R130) -/
  | ldCD
  /-- `4B`: `LD C,E` (R130) -/
  | ldCE
  /-- `4C`: `LD C,H` (R130) -/
  | ldCH
  /-- `4D`: `LD C,L` (R130) -/
  | ldCL
  /-- `4E`: `LD C,(HL)` (R132) -/
  | ldCAtHl
  /-- `4F`: `LD C,A` (R130) -/
  | ldCA
  /-- `50`: `LD D,B` (R130) -/
  | ldDB
  /-- `51`: `LD D,C` (R130) -/
  | ldDC
  /-- `52`: `LD D,D` (R130) -/
  | ldDD
  /-- `53`: `LD D,E` (R130) -/
  | ldDE
  /-- `54`: `LD D,H` (R130) -/
  | ldDH
  /-- `55`: `LD D,L` (R130) -/
  | ldDL
  /-- `56`: `LD D,(HL)` (R132) -/
  | ldDAtHl
  /-- `57`: `LD D,A` (R130) -/
  | ldDA
  /-- `58`: `LD E,B` (R130) -/
  | ldEB
  /-- `59`: `LD E,C` (R130) -/
  | ldEC
  /-- `5A`: `LD E,D` (R130) -/
  | ldED
  /-- `5B`: `LD E,E` (R130) -/
  | ldEE
  /-- `5C`: `LD E,H` (R130) -/
  | ldEH
  /-- `5D`: `LD E,L` (R130) -/
  | ldEL
  /-- `5E`: `LD E,(HL)` (R132) -/
  | ldEAtHl
  /-- `5F`: `LD E,A` (R130) -/
  | ldEA
  /-- `60`: `LD H,B` (R130) -/
  | ldHB
  /-- `61`: `LD H,C` (R130) -/
  | ldHC
  /-- `62`: `LD H,D` (R130) -/
  | ldHD
  /-- `63`: `LD H,E` (R130) -/
  | ldHE
  /-- `64`: `LD H,H` (R130) -/
  | ldHH
  /-- `65`: `LD H,L` (R130) -/
  | ldHL
  /-- `66`: `LD H,(HL)` (R132) -/
  | ldHAtHl
  /-- `67`: `LD H,A` (R130) -/
  | ldHA
  /-- `68`: `LD L,B` (R130) -/
  | ldLB
  /-- `69`: `LD L,C` (R130) -/
  | ldLC
  /-- `6A`: `LD L,D` (R130) -/
  | ldLD
  /-- `6B`: `LD L,E` (R130) -/
  | ldLE
  /-- `6C`: `LD L,H` (R130) -/
  | ldLH
  /-- `6D`: `LD L,L` (R130) -/
  | ldLL
  /-- `6E`: `LD L,(HL)` (R132) -/
  | ldLAtHl
  /-- `6F`: `LD L,A` (R130) -/
  | ldLA
  /-- `70`: `LD (HL),B` (R133) -/
  | ldAtHlB
  /-- `71`: `LD (HL),C` (R133) -/
  | ldAtHlC
  /-- `72`: `LD (HL),D` (R133) -/
  | ldAtHlD
  /-- `73`: `LD (HL),E` (R133) -/
  | ldAtHlE
  /-- `74`: `LD (HL),H` (R133) -/
  | ldAtHlH
  /-- `75`: `LD (HL),L` (R133) -/
  | ldAtHlL
  /-- `76`: `HALT` (R281) -/
  | halt
  /-- `77`: `LD (HL),A` (R133) -/
  | ldAtHlA
  /-- `78`: `LD A,B` (R130) -/
  | ldAB
  /-- `79`: `LD A,C` (R130) -/
  | ldAC
  /-- `7A`: `LD A,D` (R130) -/
  | ldAD
  /-- `7B`: `LD A,E` (R130) -/
  | ldAE
  /-- `7C`: `LD A,H` (R130) -/
  | ldAH
  /-- `7D`: `LD A,L` (R130) -/
  | ldAL
  /-- `7E`: `LD A,(HL)` (R132) -/
  | ldAAtHl
  /-- `7F`: `LD A,A` (R130) -/
  | ldAA
  /-- `80`: `ADD A,B` (R170) -/
  | addAB
  /-- `81`: `ADD A,C` (R170) -/
  | addAC
  /-- `82`: `ADD A,D` (R170) -/
  | addAD
  /-- `83`: `ADD A,E` (R170) -/
  | addAE
  /-- `84`: `ADD A,H` (R170) -/
  | addAH
  /-- `85`: `ADD A,L` (R170) -/
  | addAL
  /-- `86`: `ADD A,(HL)` (R171) -/
  | addAAtHl
  /-- `87`: `ADD A,A` (R170) -/
  | addAA
  /-- `88`: `ADC A,B` (R173) -/
  | adcAB
  /-- `89`: `ADC A,C` (R173) -/
  | adcAC
  /-- `8A`: `ADC A,D` (R173) -/
  | adcAD
  /-- `8B`: `ADC A,E` (R173) -/
  | adcAE
  /-- `8C`: `ADC A,H` (R173) -/
  | adcAH
  /-- `8D`: `ADC A,L` (R173) -/
  | adcAL
  /-- `8E`: `ADC A,(HL)` (R174) -/
  | adcAAtHl
  /-- `8F`: `ADC A,A` (R173) -/
  | adcAA
  /-- `90`: `SUB B` (R176) -/
  | subB
  /-- `91`: `SUB C` (R176) -/
  | subC
  /-- `92`: `SUB D` (R176) -/
  | subD
  /-- `93`: `SUB E` (R176) -/
  | subE
  /-- `94`: `SUB H` (R176) -/
  | subH
  /-- `95`: `SUB L` (R176) -/
  | subL
  /-- `96`: `SUB (HL)` (R177) -/
  | subAtHl
  /-- `97`: `SUB A` (R176) -/
  | subA
  /-- `98`: `SBC A,B` (R179) -/
  | sbcAB
  /-- `99`: `SBC A,C` (R179) -/
  | sbcAC
  /-- `9A`: `SBC A,D` (R179) -/
  | sbcAD
  /-- `9B`: `SBC A,E` (R179) -/
  | sbcAE
  /-- `9C`: `SBC A,H` (R179) -/
  | sbcAH
  /-- `9D`: `SBC A,L` (R179) -/
  | sbcAL
  /-- `9E`: `SBC A,(HL)` (R180) -/
  | sbcAAtHl
  /-- `9F`: `SBC A,A` (R179) -/
  | sbcAA
  /-- `A0`: `AND B` (R182) -/
  | andB
  /-- `A1`: `AND C` (R182) -/
  | andC
  /-- `A2`: `AND D` (R182) -/
  | andD
  /-- `A3`: `AND E` (R182) -/
  | andE
  /-- `A4`: `AND H` (R182) -/
  | andH
  /-- `A5`: `AND L` (R182) -/
  | andL
  /-- `A6`: `AND (HL)` (R183) -/
  | andAtHl
  /-- `A7`: `AND A` (R182) -/
  | andA
  /-- `A8`: `XOR B` (R185) -/
  | xorB
  /-- `A9`: `XOR C` (R185) -/
  | xorC
  /-- `AA`: `XOR D` (R185) -/
  | xorD
  /-- `AB`: `XOR E` (R185) -/
  | xorE
  /-- `AC`: `XOR H` (R185) -/
  | xorH
  /-- `AD`: `XOR L` (R185) -/
  | xorL
  /-- `AE`: `XOR (HL)` (R186) -/
  | xorAtHl
  /-- `AF`: `XOR A` (R185) -/
  | xorA
  /-- `B0`: `OR B` (R188) -/
  | orB
  /-- `B1`: `OR C` (R188) -/
  | orC
  /-- `B2`: `OR D` (R188) -/
  | orD
  /-- `B3`: `OR E` (R188) -/
  | orE
  /-- `B4`: `OR H` (R188) -/
  | orH
  /-- `B5`: `OR L` (R188) -/
  | orL
  /-- `B6`: `OR (HL)` (R189) -/
  | orAtHl
  /-- `B7`: `OR A` (R188) -/
  | orA
  /-- `B8`: `CP B` (R191) -/
  | cpB
  /-- `B9`: `CP C` (R191) -/
  | cpC
  /-- `BA`: `CP D` (R191) -/
  | cpD
  /-- `BB`: `CP E` (R191) -/
  | cpE
  /-- `BC`: `CP H` (R191) -/
  | cpH
  /-- `BD`: `CP L` (R191) -/
  | cpL
  /-- `BE`: `CP (HL)` (R192) -/
  | cpAtHl
  /-- `BF`: `CP A` (R191) -/
  | cpA
  /-- `C0`: `RET NZ` (R268) -/
  | retNz
  /-- `C1`: `POP BC` (R167) -/
  | popBc
  /-- `C5`: `PUSH BC` (R164) -/
  | pushBc
  /-- `C7`: `RST 0x00` (R269) -/
  | rst00
  /-- `C8`: `RET Z` (R268) -/
  | retZ
  /-- `C9`: `RET` (R267) -/
  | ret
  /-- `CB`: the prefix byte alone, not an instruction of its own (R285) -/
  | prefixCb
  /-- `CF`: `RST 0x08` (R269) -/
  | rst08
  /-- `D0`: `RET NC` (R268) -/
  | retNc
  /-- `D1`: `POP DE` (R167) -/
  | popDe
  /-- `D5`: `PUSH DE` (R164) -/
  | pushDe
  /-- `D7`: `RST 0x10` (R269) -/
  | rst10
  /-- `D8`: `RET C` (R268) -/
  | retC
  /-- `D9`: `RETI` (R270) -/
  | reti
  /-- `DF`: `RST 0x18` (R269) -/
  | rst18
  /-- `E1`: `POP HL` (R167) -/
  | popHl
  /-- `E2`: `LDH (C),A` (R142) -/
  | ldhAtCA
  /-- `E5`: `PUSH HL` (R164) -/
  | pushHl
  /-- `E7`: `RST 0x20` (R269) -/
  | rst20
  /-- `E9`: `JP HL` (R262) -/
  | jpHl
  /-- `EF`: `RST 0x28` (R269) -/
  | rst28
  /-- `F1`: `POP AF` (R166) -/
  | popAf
  /-- `F2`: `LDH A,(C)` (R141) -/
  | ldhAAtC
  /-- `F3`: `DI` (R283) -/
  | di
  /-- `F5`: `PUSH AF` (R165) -/
  | pushAf
  /-- `F7`: `RST 0x30` (R269) -/
  | rst30
  /-- `F9`: `LD SP,HL` (R162) -/
  | ldSpHl
  /-- `FB`: `EI` (R284) -/
  | ei
  /-- `FF`: `RST 0x38` (R269) -/
  | rst38
  /-- `CB 00`: `RLC B` (R224) -/
  | rlcB
  /-- `CB 01`: `RLC C` (R224) -/
  | rlcC
  /-- `CB 02`: `RLC D` (R224) -/
  | rlcD
  /-- `CB 03`: `RLC E` (R224) -/
  | rlcE
  /-- `CB 04`: `RLC H` (R224) -/
  | rlcH
  /-- `CB 05`: `RLC L` (R224) -/
  | rlcL
  /-- `CB 06`: `RLC (HL)` (R225) -/
  | rlcAtHl
  /-- `CB 07`: `RLC A` (R224) -/
  | rlcA
  /-- `CB 08`: `RRC B` (R226) -/
  | rrcB
  /-- `CB 09`: `RRC C` (R226) -/
  | rrcC
  /-- `CB 0A`: `RRC D` (R226) -/
  | rrcD
  /-- `CB 0B`: `RRC E` (R226) -/
  | rrcE
  /-- `CB 0C`: `RRC H` (R226) -/
  | rrcH
  /-- `CB 0D`: `RRC L` (R226) -/
  | rrcL
  /-- `CB 0E`: `RRC (HL)` (R227) -/
  | rrcAtHl
  /-- `CB 0F`: `RRC A` (R226) -/
  | rrcA
  /-- `CB 10`: `RL B` (R228) -/
  | rlB
  /-- `CB 11`: `RL C` (R228) -/
  | rlC
  /-- `CB 12`: `RL D` (R228) -/
  | rlD
  /-- `CB 13`: `RL E` (R228) -/
  | rlE
  /-- `CB 14`: `RL H` (R228) -/
  | rlH
  /-- `CB 15`: `RL L` (R228) -/
  | rlL
  /-- `CB 16`: `RL (HL)` (R229) -/
  | rlAtHl
  /-- `CB 17`: `RL A` (R228) -/
  | rlA
  /-- `CB 18`: `RR B` (R230) -/
  | rrB
  /-- `CB 19`: `RR C` (R230) -/
  | rrC
  /-- `CB 1A`: `RR D` (R230) -/
  | rrD
  /-- `CB 1B`: `RR E` (R230) -/
  | rrE
  /-- `CB 1C`: `RR H` (R230) -/
  | rrH
  /-- `CB 1D`: `RR L` (R230) -/
  | rrL
  /-- `CB 1E`: `RR (HL)` (R231) -/
  | rrAtHl
  /-- `CB 1F`: `RR A` (R230) -/
  | rrA
  /-- `CB 20`: `SLA B` (R232) -/
  | slaB
  /-- `CB 21`: `SLA C` (R232) -/
  | slaC
  /-- `CB 22`: `SLA D` (R232) -/
  | slaD
  /-- `CB 23`: `SLA E` (R232) -/
  | slaE
  /-- `CB 24`: `SLA H` (R232) -/
  | slaH
  /-- `CB 25`: `SLA L` (R232) -/
  | slaL
  /-- `CB 26`: `SLA (HL)` (R233) -/
  | slaAtHl
  /-- `CB 27`: `SLA A` (R232) -/
  | slaA
  /-- `CB 28`: `SRA B` (R234) -/
  | sraB
  /-- `CB 29`: `SRA C` (R234) -/
  | sraC
  /-- `CB 2A`: `SRA D` (R234) -/
  | sraD
  /-- `CB 2B`: `SRA E` (R234) -/
  | sraE
  /-- `CB 2C`: `SRA H` (R234) -/
  | sraH
  /-- `CB 2D`: `SRA L` (R234) -/
  | sraL
  /-- `CB 2E`: `SRA (HL)` (R235) -/
  | sraAtHl
  /-- `CB 2F`: `SRA A` (R234) -/
  | sraA
  /-- `CB 30`: `SWAP B` (R236) -/
  | swapB
  /-- `CB 31`: `SWAP C` (R236) -/
  | swapC
  /-- `CB 32`: `SWAP D` (R236) -/
  | swapD
  /-- `CB 33`: `SWAP E` (R236) -/
  | swapE
  /-- `CB 34`: `SWAP H` (R236) -/
  | swapH
  /-- `CB 35`: `SWAP L` (R236) -/
  | swapL
  /-- `CB 36`: `SWAP (HL)` (R237) -/
  | swapAtHl
  /-- `CB 37`: `SWAP A` (R236) -/
  | swapA
  /-- `CB 38`: `SRL B` (R238) -/
  | srlB
  /-- `CB 39`: `SRL C` (R238) -/
  | srlC
  /-- `CB 3A`: `SRL D` (R238) -/
  | srlD
  /-- `CB 3B`: `SRL E` (R238) -/
  | srlE
  /-- `CB 3C`: `SRL H` (R238) -/
  | srlH
  /-- `CB 3D`: `SRL L` (R238) -/
  | srlL
  /-- `CB 3E`: `SRL (HL)` (R239) -/
  | srlAtHl
  /-- `CB 3F`: `SRL A` (R238) -/
  | srlA
  /-- `CB 40`: `BIT 0,B` (R240) -/
  | bit0B
  /-- `CB 41`: `BIT 0,C` (R240) -/
  | bit0C
  /-- `CB 42`: `BIT 0,D` (R240) -/
  | bit0D
  /-- `CB 43`: `BIT 0,E` (R240) -/
  | bit0E
  /-- `CB 44`: `BIT 0,H` (R240) -/
  | bit0H
  /-- `CB 45`: `BIT 0,L` (R240) -/
  | bit0L
  /-- `CB 46`: `BIT 0,(HL)` (R241) -/
  | bit0AtHl
  /-- `CB 47`: `BIT 0,A` (R240) -/
  | bit0A
  /-- `CB 48`: `BIT 1,B` (R240) -/
  | bit1B
  /-- `CB 49`: `BIT 1,C` (R240) -/
  | bit1C
  /-- `CB 4A`: `BIT 1,D` (R240) -/
  | bit1D
  /-- `CB 4B`: `BIT 1,E` (R240) -/
  | bit1E
  /-- `CB 4C`: `BIT 1,H` (R240) -/
  | bit1H
  /-- `CB 4D`: `BIT 1,L` (R240) -/
  | bit1L
  /-- `CB 4E`: `BIT 1,(HL)` (R241) -/
  | bit1AtHl
  /-- `CB 4F`: `BIT 1,A` (R240) -/
  | bit1A
  /-- `CB 50`: `BIT 2,B` (R240) -/
  | bit2B
  /-- `CB 51`: `BIT 2,C` (R240) -/
  | bit2C
  /-- `CB 52`: `BIT 2,D` (R240) -/
  | bit2D
  /-- `CB 53`: `BIT 2,E` (R240) -/
  | bit2E
  /-- `CB 54`: `BIT 2,H` (R240) -/
  | bit2H
  /-- `CB 55`: `BIT 2,L` (R240) -/
  | bit2L
  /-- `CB 56`: `BIT 2,(HL)` (R241) -/
  | bit2AtHl
  /-- `CB 57`: `BIT 2,A` (R240) -/
  | bit2A
  /-- `CB 58`: `BIT 3,B` (R240) -/
  | bit3B
  /-- `CB 59`: `BIT 3,C` (R240) -/
  | bit3C
  /-- `CB 5A`: `BIT 3,D` (R240) -/
  | bit3D
  /-- `CB 5B`: `BIT 3,E` (R240) -/
  | bit3E
  /-- `CB 5C`: `BIT 3,H` (R240) -/
  | bit3H
  /-- `CB 5D`: `BIT 3,L` (R240) -/
  | bit3L
  /-- `CB 5E`: `BIT 3,(HL)` (R241) -/
  | bit3AtHl
  /-- `CB 5F`: `BIT 3,A` (R240) -/
  | bit3A
  /-- `CB 60`: `BIT 4,B` (R240) -/
  | bit4B
  /-- `CB 61`: `BIT 4,C` (R240) -/
  | bit4C
  /-- `CB 62`: `BIT 4,D` (R240) -/
  | bit4D
  /-- `CB 63`: `BIT 4,E` (R240) -/
  | bit4E
  /-- `CB 64`: `BIT 4,H` (R240) -/
  | bit4H
  /-- `CB 65`: `BIT 4,L` (R240) -/
  | bit4L
  /-- `CB 66`: `BIT 4,(HL)` (R241) -/
  | bit4AtHl
  /-- `CB 67`: `BIT 4,A` (R240) -/
  | bit4A
  /-- `CB 68`: `BIT 5,B` (R240) -/
  | bit5B
  /-- `CB 69`: `BIT 5,C` (R240) -/
  | bit5C
  /-- `CB 6A`: `BIT 5,D` (R240) -/
  | bit5D
  /-- `CB 6B`: `BIT 5,E` (R240) -/
  | bit5E
  /-- `CB 6C`: `BIT 5,H` (R240) -/
  | bit5H
  /-- `CB 6D`: `BIT 5,L` (R240) -/
  | bit5L
  /-- `CB 6E`: `BIT 5,(HL)` (R241) -/
  | bit5AtHl
  /-- `CB 6F`: `BIT 5,A` (R240) -/
  | bit5A
  /-- `CB 70`: `BIT 6,B` (R240) -/
  | bit6B
  /-- `CB 71`: `BIT 6,C` (R240) -/
  | bit6C
  /-- `CB 72`: `BIT 6,D` (R240) -/
  | bit6D
  /-- `CB 73`: `BIT 6,E` (R240) -/
  | bit6E
  /-- `CB 74`: `BIT 6,H` (R240) -/
  | bit6H
  /-- `CB 75`: `BIT 6,L` (R240) -/
  | bit6L
  /-- `CB 76`: `BIT 6,(HL)` (R241) -/
  | bit6AtHl
  /-- `CB 77`: `BIT 6,A` (R240) -/
  | bit6A
  /-- `CB 78`: `BIT 7,B` (R240) -/
  | bit7B
  /-- `CB 79`: `BIT 7,C` (R240) -/
  | bit7C
  /-- `CB 7A`: `BIT 7,D` (R240) -/
  | bit7D
  /-- `CB 7B`: `BIT 7,E` (R240) -/
  | bit7E
  /-- `CB 7C`: `BIT 7,H` (R240) -/
  | bit7H
  /-- `CB 7D`: `BIT 7,L` (R240) -/
  | bit7L
  /-- `CB 7E`: `BIT 7,(HL)` (R241) -/
  | bit7AtHl
  /-- `CB 7F`: `BIT 7,A` (R240) -/
  | bit7A
  /-- `CB 80`: `RES 0,B` (R242) -/
  | res0B
  /-- `CB 81`: `RES 0,C` (R242) -/
  | res0C
  /-- `CB 82`: `RES 0,D` (R242) -/
  | res0D
  /-- `CB 83`: `RES 0,E` (R242) -/
  | res0E
  /-- `CB 84`: `RES 0,H` (R242) -/
  | res0H
  /-- `CB 85`: `RES 0,L` (R242) -/
  | res0L
  /-- `CB 86`: `RES 0,(HL)` (R243) -/
  | res0AtHl
  /-- `CB 87`: `RES 0,A` (R242) -/
  | res0A
  /-- `CB 88`: `RES 1,B` (R242) -/
  | res1B
  /-- `CB 89`: `RES 1,C` (R242) -/
  | res1C
  /-- `CB 8A`: `RES 1,D` (R242) -/
  | res1D
  /-- `CB 8B`: `RES 1,E` (R242) -/
  | res1E
  /-- `CB 8C`: `RES 1,H` (R242) -/
  | res1H
  /-- `CB 8D`: `RES 1,L` (R242) -/
  | res1L
  /-- `CB 8E`: `RES 1,(HL)` (R243) -/
  | res1AtHl
  /-- `CB 8F`: `RES 1,A` (R242) -/
  | res1A
  /-- `CB 90`: `RES 2,B` (R242) -/
  | res2B
  /-- `CB 91`: `RES 2,C` (R242) -/
  | res2C
  /-- `CB 92`: `RES 2,D` (R242) -/
  | res2D
  /-- `CB 93`: `RES 2,E` (R242) -/
  | res2E
  /-- `CB 94`: `RES 2,H` (R242) -/
  | res2H
  /-- `CB 95`: `RES 2,L` (R242) -/
  | res2L
  /-- `CB 96`: `RES 2,(HL)` (R243) -/
  | res2AtHl
  /-- `CB 97`: `RES 2,A` (R242) -/
  | res2A
  /-- `CB 98`: `RES 3,B` (R242) -/
  | res3B
  /-- `CB 99`: `RES 3,C` (R242) -/
  | res3C
  /-- `CB 9A`: `RES 3,D` (R242) -/
  | res3D
  /-- `CB 9B`: `RES 3,E` (R242) -/
  | res3E
  /-- `CB 9C`: `RES 3,H` (R242) -/
  | res3H
  /-- `CB 9D`: `RES 3,L` (R242) -/
  | res3L
  /-- `CB 9E`: `RES 3,(HL)` (R243) -/
  | res3AtHl
  /-- `CB 9F`: `RES 3,A` (R242) -/
  | res3A
  /-- `CB A0`: `RES 4,B` (R242) -/
  | res4B
  /-- `CB A1`: `RES 4,C` (R242) -/
  | res4C
  /-- `CB A2`: `RES 4,D` (R242) -/
  | res4D
  /-- `CB A3`: `RES 4,E` (R242) -/
  | res4E
  /-- `CB A4`: `RES 4,H` (R242) -/
  | res4H
  /-- `CB A5`: `RES 4,L` (R242) -/
  | res4L
  /-- `CB A6`: `RES 4,(HL)` (R243) -/
  | res4AtHl
  /-- `CB A7`: `RES 4,A` (R242) -/
  | res4A
  /-- `CB A8`: `RES 5,B` (R242) -/
  | res5B
  /-- `CB A9`: `RES 5,C` (R242) -/
  | res5C
  /-- `CB AA`: `RES 5,D` (R242) -/
  | res5D
  /-- `CB AB`: `RES 5,E` (R242) -/
  | res5E
  /-- `CB AC`: `RES 5,H` (R242) -/
  | res5H
  /-- `CB AD`: `RES 5,L` (R242) -/
  | res5L
  /-- `CB AE`: `RES 5,(HL)` (R243) -/
  | res5AtHl
  /-- `CB AF`: `RES 5,A` (R242) -/
  | res5A
  /-- `CB B0`: `RES 6,B` (R242) -/
  | res6B
  /-- `CB B1`: `RES 6,C` (R242) -/
  | res6C
  /-- `CB B2`: `RES 6,D` (R242) -/
  | res6D
  /-- `CB B3`: `RES 6,E` (R242) -/
  | res6E
  /-- `CB B4`: `RES 6,H` (R242) -/
  | res6H
  /-- `CB B5`: `RES 6,L` (R242) -/
  | res6L
  /-- `CB B6`: `RES 6,(HL)` (R243) -/
  | res6AtHl
  /-- `CB B7`: `RES 6,A` (R242) -/
  | res6A
  /-- `CB B8`: `RES 7,B` (R242) -/
  | res7B
  /-- `CB B9`: `RES 7,C` (R242) -/
  | res7C
  /-- `CB BA`: `RES 7,D` (R242) -/
  | res7D
  /-- `CB BB`: `RES 7,E` (R242) -/
  | res7E
  /-- `CB BC`: `RES 7,H` (R242) -/
  | res7H
  /-- `CB BD`: `RES 7,L` (R242) -/
  | res7L
  /-- `CB BE`: `RES 7,(HL)` (R243) -/
  | res7AtHl
  /-- `CB BF`: `RES 7,A` (R242) -/
  | res7A
  /-- `CB C0`: `SET 0,B` (R244) -/
  | set0B
  /-- `CB C1`: `SET 0,C` (R244) -/
  | set0C
  /-- `CB C2`: `SET 0,D` (R244) -/
  | set0D
  /-- `CB C3`: `SET 0,E` (R244) -/
  | set0E
  /-- `CB C4`: `SET 0,H` (R244) -/
  | set0H
  /-- `CB C5`: `SET 0,L` (R244) -/
  | set0L
  /-- `CB C6`: `SET 0,(HL)` (R245) -/
  | set0AtHl
  /-- `CB C7`: `SET 0,A` (R244) -/
  | set0A
  /-- `CB C8`: `SET 1,B` (R244) -/
  | set1B
  /-- `CB C9`: `SET 1,C` (R244) -/
  | set1C
  /-- `CB CA`: `SET 1,D` (R244) -/
  | set1D
  /-- `CB CB`: `SET 1,E` (R244) -/
  | set1E
  /-- `CB CC`: `SET 1,H` (R244) -/
  | set1H
  /-- `CB CD`: `SET 1,L` (R244) -/
  | set1L
  /-- `CB CE`: `SET 1,(HL)` (R245) -/
  | set1AtHl
  /-- `CB CF`: `SET 1,A` (R244) -/
  | set1A
  /-- `CB D0`: `SET 2,B` (R244) -/
  | set2B
  /-- `CB D1`: `SET 2,C` (R244) -/
  | set2C
  /-- `CB D2`: `SET 2,D` (R244) -/
  | set2D
  /-- `CB D3`: `SET 2,E` (R244) -/
  | set2E
  /-- `CB D4`: `SET 2,H` (R244) -/
  | set2H
  /-- `CB D5`: `SET 2,L` (R244) -/
  | set2L
  /-- `CB D6`: `SET 2,(HL)` (R245) -/
  | set2AtHl
  /-- `CB D7`: `SET 2,A` (R244) -/
  | set2A
  /-- `CB D8`: `SET 3,B` (R244) -/
  | set3B
  /-- `CB D9`: `SET 3,C` (R244) -/
  | set3C
  /-- `CB DA`: `SET 3,D` (R244) -/
  | set3D
  /-- `CB DB`: `SET 3,E` (R244) -/
  | set3E
  /-- `CB DC`: `SET 3,H` (R244) -/
  | set3H
  /-- `CB DD`: `SET 3,L` (R244) -/
  | set3L
  /-- `CB DE`: `SET 3,(HL)` (R245) -/
  | set3AtHl
  /-- `CB DF`: `SET 3,A` (R244) -/
  | set3A
  /-- `CB E0`: `SET 4,B` (R244) -/
  | set4B
  /-- `CB E1`: `SET 4,C` (R244) -/
  | set4C
  /-- `CB E2`: `SET 4,D` (R244) -/
  | set4D
  /-- `CB E3`: `SET 4,E` (R244) -/
  | set4E
  /-- `CB E4`: `SET 4,H` (R244) -/
  | set4H
  /-- `CB E5`: `SET 4,L` (R244) -/
  | set4L
  /-- `CB E6`: `SET 4,(HL)` (R245) -/
  | set4AtHl
  /-- `CB E7`: `SET 4,A` (R244) -/
  | set4A
  /-- `CB E8`: `SET 5,B` (R244) -/
  | set5B
  /-- `CB E9`: `SET 5,C` (R244) -/
  | set5C
  /-- `CB EA`: `SET 5,D` (R244) -/
  | set5D
  /-- `CB EB`: `SET 5,E` (R244) -/
  | set5E
  /-- `CB EC`: `SET 5,H` (R244) -/
  | set5H
  /-- `CB ED`: `SET 5,L` (R244) -/
  | set5L
  /-- `CB EE`: `SET 5,(HL)` (R245) -/
  | set5AtHl
  /-- `CB EF`: `SET 5,A` (R244) -/
  | set5A
  /-- `CB F0`: `SET 6,B` (R244) -/
  | set6B
  /-- `CB F1`: `SET 6,C` (R244) -/
  | set6C
  /-- `CB F2`: `SET 6,D` (R244) -/
  | set6D
  /-- `CB F3`: `SET 6,E` (R244) -/
  | set6E
  /-- `CB F4`: `SET 6,H` (R244) -/
  | set6H
  /-- `CB F5`: `SET 6,L` (R244) -/
  | set6L
  /-- `CB F6`: `SET 6,(HL)` (R245) -/
  | set6AtHl
  /-- `CB F7`: `SET 6,A` (R244) -/
  | set6A
  /-- `CB F8`: `SET 7,B` (R244) -/
  | set7B
  /-- `CB F9`: `SET 7,C` (R244) -/
  | set7C
  /-- `CB FA`: `SET 7,D` (R244) -/
  | set7D
  /-- `CB FB`: `SET 7,E` (R244) -/
  | set7E
  /-- `CB FC`: `SET 7,H` (R244) -/
  | set7H
  /-- `CB FD`: `SET 7,L` (R244) -/
  | set7L
  /-- `CB FE`: `SET 7,(HL)` (R245) -/
  | set7AtHl
  /-- `CB FF`: `SET 7,A` (R244) -/
  | set7A
  deriving DecidableEq, Repr

/-- Choose one of eight by a 3-bit number. -/
def pick8 {α : Type} (i : Fin 8) (x0 x1 x2 x3 x4 x5 x6 x7 : α) : α :=
  match i.val with
  | 0 => x0
  | 1 => x1
  | 2 => x2
  | 3 => x3
  | 4 => x4
  | 5 => x5
  | 6 => x6
  | _ => x7

/-! The families by operand code (R111 to R115): one name for all the rows that differ only in an operand. -/

namespace Instr

/-- `LD r,r'` (R112, R130): destination, then source. -/
def ldRegReg : Reg8 → Reg8 → Instr
  | .b, .b => .ldBB
  | .b, .c => .ldBC
  | .b, .d => .ldBD
  | .b, .e => .ldBE
  | .b, .h => .ldBH
  | .b, .l => .ldBL
  | .b, .a => .ldBA
  | .c, .b => .ldCB
  | .c, .c => .ldCC
  | .c, .d => .ldCD
  | .c, .e => .ldCE
  | .c, .h => .ldCH
  | .c, .l => .ldCL
  | .c, .a => .ldCA
  | .d, .b => .ldDB
  | .d, .c => .ldDC
  | .d, .d => .ldDD
  | .d, .e => .ldDE
  | .d, .h => .ldDH
  | .d, .l => .ldDL
  | .d, .a => .ldDA
  | .e, .b => .ldEB
  | .e, .c => .ldEC
  | .e, .d => .ldED
  | .e, .e => .ldEE
  | .e, .h => .ldEH
  | .e, .l => .ldEL
  | .e, .a => .ldEA
  | .h, .b => .ldHB
  | .h, .c => .ldHC
  | .h, .d => .ldHD
  | .h, .e => .ldHE
  | .h, .h => .ldHH
  | .h, .l => .ldHL
  | .h, .a => .ldHA
  | .l, .b => .ldLB
  | .l, .c => .ldLC
  | .l, .d => .ldLD
  | .l, .e => .ldLE
  | .l, .h => .ldLH
  | .l, .l => .ldLL
  | .l, .a => .ldLA
  | .a, .b => .ldAB
  | .a, .c => .ldAC
  | .a, .d => .ldAD
  | .a, .e => .ldAE
  | .a, .h => .ldAH
  | .a, .l => .ldAL
  | .a, .a => .ldAA

/-- `LD r,n` (R131). -/
def ldRegImm : Reg8 → Byte → Instr
  | .b, n => .ldBN n
  | .c, n => .ldCN n
  | .d, n => .ldDN n
  | .e, n => .ldEN n
  | .h, n => .ldHN n
  | .l, n => .ldLN n
  | .a, n => .ldAN n

/-- `LD r,(HL)` (R132). -/
def ldRegAtHl : Reg8 → Instr
  | .b => .ldBAtHl
  | .c => .ldCAtHl
  | .d => .ldDAtHl
  | .e => .ldEAtHl
  | .h => .ldHAtHl
  | .l => .ldLAtHl
  | .a => .ldAAtHl

/-- `LD (HL),r` (R133). -/
def ldAtHlReg : Reg8 → Instr
  | .b => .ldAtHlB
  | .c => .ldAtHlC
  | .d => .ldAtHlD
  | .e => .ldAtHlE
  | .h => .ldAtHlH
  | .l => .ldAtHlL
  | .a => .ldAtHlA

/-- `INC r` (R194). -/
def incReg : Reg8 → Instr
  | .b => .incB
  | .c => .incC
  | .d => .incD
  | .e => .incE
  | .h => .incH
  | .l => .incL
  | .a => .incA

/-- `DEC r` (R196). -/
def decReg : Reg8 → Instr
  | .b => .decB
  | .c => .decC
  | .d => .decD
  | .e => .decE
  | .h => .decH
  | .l => .decL
  | .a => .decA

/-- The arithmetic-logic operation on `A` and a register (R113). -/
def aluReg : AluOp → Reg8 → Instr
  | .add, .b => .addAB
  | .add, .c => .addAC
  | .add, .d => .addAD
  | .add, .e => .addAE
  | .add, .h => .addAH
  | .add, .l => .addAL
  | .add, .a => .addAA
  | .adc, .b => .adcAB
  | .adc, .c => .adcAC
  | .adc, .d => .adcAD
  | .adc, .e => .adcAE
  | .adc, .h => .adcAH
  | .adc, .l => .adcAL
  | .adc, .a => .adcAA
  | .sub, .b => .subB
  | .sub, .c => .subC
  | .sub, .d => .subD
  | .sub, .e => .subE
  | .sub, .h => .subH
  | .sub, .l => .subL
  | .sub, .a => .subA
  | .sbc, .b => .sbcAB
  | .sbc, .c => .sbcAC
  | .sbc, .d => .sbcAD
  | .sbc, .e => .sbcAE
  | .sbc, .h => .sbcAH
  | .sbc, .l => .sbcAL
  | .sbc, .a => .sbcAA
  | .and, .b => .andB
  | .and, .c => .andC
  | .and, .d => .andD
  | .and, .e => .andE
  | .and, .h => .andH
  | .and, .l => .andL
  | .and, .a => .andA
  | .xor, .b => .xorB
  | .xor, .c => .xorC
  | .xor, .d => .xorD
  | .xor, .e => .xorE
  | .xor, .h => .xorH
  | .xor, .l => .xorL
  | .xor, .a => .xorA
  | .or, .b => .orB
  | .or, .c => .orC
  | .or, .d => .orD
  | .or, .e => .orE
  | .or, .h => .orH
  | .or, .l => .orL
  | .or, .a => .orA
  | .cp, .b => .cpB
  | .cp, .c => .cpC
  | .cp, .d => .cpD
  | .cp, .e => .cpE
  | .cp, .h => .cpH
  | .cp, .l => .cpL
  | .cp, .a => .cpA

/-- The arithmetic-logic operation on `A` and `(HL)` (R113). -/
def aluAtHl : AluOp → Instr
  | .add => .addAAtHl
  | .adc => .adcAAtHl
  | .sub => .subAtHl
  | .sbc => .sbcAAtHl
  | .and => .andAtHl
  | .xor => .xorAtHl
  | .or => .orAtHl
  | .cp => .cpAtHl

/-- The arithmetic-logic operation on `A` and an immediate (R114). -/
def aluImm : AluOp → Byte → Instr
  | .add, n => .addAN n
  | .adc, n => .adcAN n
  | .sub, n => .subN n
  | .sbc, n => .sbcAN n
  | .and, n => .andN n
  | .xor, n => .xorN n
  | .or, n => .orN n
  | .cp, n => .cpN n

/-- `LD rr,nn` (R160). -/
def ldPairImm : Reg16 → Word → Instr
  | .bc, nn => .ldBcNn nn
  | .de, nn => .ldDeNn nn
  | .hl, nn => .ldHlNn nn
  | .sp, nn => .ldSpNn nn

/-- `ADD HL,rr` (R210). -/
def addHlPair : Reg16 → Instr
  | .bc => .addHlBc
  | .de => .addHlDe
  | .hl => .addHlHl
  | .sp => .addHlSp

/-- `INC rr` (R211). -/
def incPair : Reg16 → Instr
  | .bc => .incBc
  | .de => .incDe
  | .hl => .incHl
  | .sp => .incSp

/-- `DEC rr` (R212). -/
def decPair : Reg16 → Instr
  | .bc => .decBc
  | .de => .decDe
  | .hl => .decHl
  | .sp => .decSp

/-- `PUSH qq` (R164, R165). -/
def push : StackPair → Instr
  | .bc => .pushBc
  | .de => .pushDe
  | .hl => .pushHl
  | .af => .pushAf

/-- `POP qq` (R166, R167). -/
def pop : StackPair → Instr
  | .bc => .popBc
  | .de => .popDe
  | .hl => .popHl
  | .af => .popAf

/-- `JP cc,nn` (R261). -/
def jpCond : Cond → Word → Instr
  | .nz, nn => .jpNzNn nn
  | .z, nn => .jpZNn nn
  | .nc, nn => .jpNcNn nn
  | .c, nn => .jpCNn nn

/-- `JR cc,e` (R264). -/
def jrCond : Cond → Byte → Instr
  | .nz, e => .jrNzDisp e
  | .z, e => .jrZDisp e
  | .nc, e => .jrNcDisp e
  | .c, e => .jrCDisp e

/-- `CALL cc,nn` (R266). -/
def callCond : Cond → Word → Instr
  | .nz, nn => .callNzNn nn
  | .z, nn => .callZNn nn
  | .nc, nn => .callNcNn nn
  | .c, nn => .callCNn nn

/-- `RET cc` (R268). -/
def retCond : Cond → Instr
  | .nz => .retNz
  | .z => .retZ
  | .nc => .retNc
  | .c => .retC

/-- `RST t` with `t = 8 × y` (R269). -/
def rst (y : Fin 8) : Instr :=
  pick8 y .rst00 .rst08 .rst10 .rst18 .rst20 .rst28 .rst30 .rst38

/-- The rotate-shift operation on a register (R115). -/
def rotReg : RotOp → Reg8 → Instr
  | .rlc, .b => .rlcB
  | .rlc, .c => .rlcC
  | .rlc, .d => .rlcD
  | .rlc, .e => .rlcE
  | .rlc, .h => .rlcH
  | .rlc, .l => .rlcL
  | .rlc, .a => .rlcA
  | .rrc, .b => .rrcB
  | .rrc, .c => .rrcC
  | .rrc, .d => .rrcD
  | .rrc, .e => .rrcE
  | .rrc, .h => .rrcH
  | .rrc, .l => .rrcL
  | .rrc, .a => .rrcA
  | .rl, .b => .rlB
  | .rl, .c => .rlC
  | .rl, .d => .rlD
  | .rl, .e => .rlE
  | .rl, .h => .rlH
  | .rl, .l => .rlL
  | .rl, .a => .rlA
  | .rr, .b => .rrB
  | .rr, .c => .rrC
  | .rr, .d => .rrD
  | .rr, .e => .rrE
  | .rr, .h => .rrH
  | .rr, .l => .rrL
  | .rr, .a => .rrA
  | .sla, .b => .slaB
  | .sla, .c => .slaC
  | .sla, .d => .slaD
  | .sla, .e => .slaE
  | .sla, .h => .slaH
  | .sla, .l => .slaL
  | .sla, .a => .slaA
  | .sra, .b => .sraB
  | .sra, .c => .sraC
  | .sra, .d => .sraD
  | .sra, .e => .sraE
  | .sra, .h => .sraH
  | .sra, .l => .sraL
  | .sra, .a => .sraA
  | .swap, .b => .swapB
  | .swap, .c => .swapC
  | .swap, .d => .swapD
  | .swap, .e => .swapE
  | .swap, .h => .swapH
  | .swap, .l => .swapL
  | .swap, .a => .swapA
  | .srl, .b => .srlB
  | .srl, .c => .srlC
  | .srl, .d => .srlD
  | .srl, .e => .srlE
  | .srl, .h => .srlH
  | .srl, .l => .srlL
  | .srl, .a => .srlA

/-- The rotate-shift operation on `(HL)` (R115). -/
def rotAtHl : RotOp → Instr
  | .rlc => .rlcAtHl
  | .rrc => .rrcAtHl
  | .rl => .rlAtHl
  | .rr => .rrAtHl
  | .sla => .slaAtHl
  | .sra => .sraAtHl
  | .swap => .swapAtHl
  | .srl => .srlAtHl

/-- `BIT b,r` (R240). -/
def bitReg (b : Fin 8) : Reg8 → Instr
  | .b => pick8 b .bit0B .bit1B .bit2B .bit3B .bit4B .bit5B .bit6B .bit7B
  | .c => pick8 b .bit0C .bit1C .bit2C .bit3C .bit4C .bit5C .bit6C .bit7C
  | .d => pick8 b .bit0D .bit1D .bit2D .bit3D .bit4D .bit5D .bit6D .bit7D
  | .e => pick8 b .bit0E .bit1E .bit2E .bit3E .bit4E .bit5E .bit6E .bit7E
  | .h => pick8 b .bit0H .bit1H .bit2H .bit3H .bit4H .bit5H .bit6H .bit7H
  | .l => pick8 b .bit0L .bit1L .bit2L .bit3L .bit4L .bit5L .bit6L .bit7L
  | .a => pick8 b .bit0A .bit1A .bit2A .bit3A .bit4A .bit5A .bit6A .bit7A

/-- `BIT b,(HL)` (R241). -/
def bitAtHl (b : Fin 8) : Instr :=
  pick8 b .bit0AtHl .bit1AtHl .bit2AtHl .bit3AtHl .bit4AtHl .bit5AtHl .bit6AtHl .bit7AtHl

/-- `RES b,r` (R242). -/
def resReg (b : Fin 8) : Reg8 → Instr
  | .b => pick8 b .res0B .res1B .res2B .res3B .res4B .res5B .res6B .res7B
  | .c => pick8 b .res0C .res1C .res2C .res3C .res4C .res5C .res6C .res7C
  | .d => pick8 b .res0D .res1D .res2D .res3D .res4D .res5D .res6D .res7D
  | .e => pick8 b .res0E .res1E .res2E .res3E .res4E .res5E .res6E .res7E
  | .h => pick8 b .res0H .res1H .res2H .res3H .res4H .res5H .res6H .res7H
  | .l => pick8 b .res0L .res1L .res2L .res3L .res4L .res5L .res6L .res7L
  | .a => pick8 b .res0A .res1A .res2A .res3A .res4A .res5A .res6A .res7A

/-- `RES b,(HL)` (R243). -/
def resAtHl (b : Fin 8) : Instr :=
  pick8 b .res0AtHl .res1AtHl .res2AtHl .res3AtHl .res4AtHl .res5AtHl .res6AtHl .res7AtHl

/-- `SET b,r` (R244). -/
def setReg (b : Fin 8) : Reg8 → Instr
  | .b => pick8 b .set0B .set1B .set2B .set3B .set4B .set5B .set6B .set7B
  | .c => pick8 b .set0C .set1C .set2C .set3C .set4C .set5C .set6C .set7C
  | .d => pick8 b .set0D .set1D .set2D .set3D .set4D .set5D .set6D .set7D
  | .e => pick8 b .set0E .set1E .set2E .set3E .set4E .set5E .set6E .set7E
  | .h => pick8 b .set0H .set1H .set2H .set3H .set4H .set5H .set6H .set7H
  | .l => pick8 b .set0L .set1L .set2L .set3L .set4L .set5L .set6L .set7L
  | .a => pick8 b .set0A .set1A .set2A .set3A .set4A .set5A .set6A .set7A

/-- `SET b,(HL)` (R245). -/
def setAtHl (b : Fin 8) : Instr :=
  pick8 b .set0AtHl .set1AtHl .set2AtHl .set3AtHl .set4AtHl .set5AtHl .set6AtHl .set7AtHl

end Instr

end Sys2Proof
end

