-- ==== Sys2Proof/WellFormed.lean ====
section
/-!
DEFINITION. Which terms of `Instr` are instructions of the machine. An immediate may have any value (R110, R119), so
two checks remain: an illegal byte is one of the eleven (R118), and the prefix byte is not an instruction of its own
(R285).
-/

namespace Sys2Proof

/-- The eleven bytes absent from the dispatch table (R118). -/
def illegalBytes : List Byte :=
  [0xD3, 0xDB, 0xDD, 0xE3, 0xE4, 0xEB, 0xEC, 0xED, 0xF4, 0xFC, 0xFD]

/-- Well-formed instructions. Every other constructor has only immediates, each of which may take every value, so it
is well-formed whatever they are. -/
def Instr.wellFormed : Instr → Bool
  | .illegal op => illegalBytes.contains op
  | .prefixCb => false
  | _ => true

end Sys2Proof
end

