-- ==== Sys2Proof/Decode.lean ====
section
/-!
DEFINITION. The decoder and the encoder, both written from the grids R116 and R117 of spec/30_encoding.md.
`primary` and `secondary` are the two 256-entry tables of R100, one list per grid row.
-/

namespace Sys2Proof

/-- What a primary opcode byte selects: its format (R102) and the instruction it makes of its operand bytes. -/
inductive Entry where
  /-- Format `OP` (and `ILLEGAL`): one byte. -/
  | op (i : Instr)
  /-- Formats `OP_n` and `OP_e`: one operand byte. -/
  | opByte (f : Byte → Instr)
  /-- Format `OP_nn`: two operand bytes, low byte first. -/
  | opWord (f : Word → Instr)
  /-- Format `CB_OP`: the second byte selects an entry of the secondary table (R115). -/
  | page

/-- Why a byte list is not the beginning of an instruction. Every byte value decodes (R120): only a list that ends
too early is rejected. -/
inductive DecodeError where
  /-- There is no byte. -/
  | noByte
  /-- The list ends inside the instruction that opcode byte `op` begins. -/
  | truncated (op : Byte)
  deriving DecidableEq, Repr

/-- Row 0x of the primary grid (R116). -/
def primaryRow0 : List Entry :=
  [.op .nop, .opWord .ldBcNn, .op .ldAtBcA, .op .incBc, .op .incB, .op .decB, .opByte .ldBN, .op .rlca,
   .opWord .ldAtNnSp, .op .addHlBc, .op .ldAAtBc, .op .decBc, .op .incC, .op .decC, .opByte .ldCN, .op .rrca]

/-- Row 1x of the primary grid (R116). -/
def primaryRow1 : List Entry :=
  [.opByte .stop, .opWord .ldDeNn, .op .ldAtDeA, .op .incDe, .op .incD, .op .decD, .opByte .ldDN, .op .rla,
   .opByte .jrDisp, .op .addHlDe, .op .ldAAtDe, .op .decDe, .op .incE, .op .decE, .opByte .ldEN, .op .rra]

/-- Row 2x of the primary grid (R116). -/
def primaryRow2 : List Entry :=
  [.opByte .jrNzDisp, .opWord .ldHlNn, .op .ldAtHlIncA, .op .incHl, .op .incH, .op .decH, .opByte .ldHN, .op .daa,
   .opByte .jrZDisp, .op .addHlHl, .op .ldAAtHlInc, .op .decHl, .op .incL, .op .decL, .opByte .ldLN, .op .cpl]

/-- Row 3x of the primary grid (R116). -/
def primaryRow3 : List Entry :=
  [.opByte .jrNcDisp, .opWord .ldSpNn, .op .ldAtHlDecA, .op .incSp, .op .incAtHl, .op .decAtHl, .opByte .ldAtHlN,
   .op .scf, .opByte .jrCDisp, .op .addHlSp, .op .ldAAtHlDec, .op .decSp, .op .incA, .op .decA, .opByte .ldAN,
   .op .ccf]

/-- Row 4x of the primary grid (R116). -/
def primaryRow4 : List Entry :=
  [.op .ldBB, .op .ldBC, .op .ldBD, .op .ldBE, .op .ldBH, .op .ldBL, .op .ldBAtHl, .op .ldBA, .op .ldCB, .op .ldCC,
   .op .ldCD, .op .ldCE, .op .ldCH, .op .ldCL, .op .ldCAtHl, .op .ldCA]

/-- Row 5x of the primary grid (R116). -/
def primaryRow5 : List Entry :=
  [.op .ldDB, .op .ldDC, .op .ldDD, .op .ldDE, .op .ldDH, .op .ldDL, .op .ldDAtHl, .op .ldDA, .op .ldEB, .op .ldEC,
   .op .ldED, .op .ldEE, .op .ldEH, .op .ldEL, .op .ldEAtHl, .op .ldEA]

/-- Row 6x of the primary grid (R116). -/
def primaryRow6 : List Entry :=
  [.op .ldHB, .op .ldHC, .op .ldHD, .op .ldHE, .op .ldHH, .op .ldHL, .op .ldHAtHl, .op .ldHA, .op .ldLB, .op .ldLC,
   .op .ldLD, .op .ldLE, .op .ldLH, .op .ldLL, .op .ldLAtHl, .op .ldLA]

/-- Row 7x of the primary grid (R116). -/
def primaryRow7 : List Entry :=
  [.op .ldAtHlB, .op .ldAtHlC, .op .ldAtHlD, .op .ldAtHlE, .op .ldAtHlH, .op .ldAtHlL, .op .halt, .op .ldAtHlA,
   .op .ldAB, .op .ldAC, .op .ldAD, .op .ldAE, .op .ldAH, .op .ldAL, .op .ldAAtHl, .op .ldAA]

/-- Row 8x of the primary grid (R116). -/
def primaryRow8 : List Entry :=
  [.op .addAB, .op .addAC, .op .addAD, .op .addAE, .op .addAH, .op .addAL, .op .addAAtHl, .op .addAA, .op .adcAB,
   .op .adcAC, .op .adcAD, .op .adcAE, .op .adcAH, .op .adcAL, .op .adcAAtHl, .op .adcAA]

/-- Row 9x of the primary grid (R116). -/
def primaryRow9 : List Entry :=
  [.op .subB, .op .subC, .op .subD, .op .subE, .op .subH, .op .subL, .op .subAtHl, .op .subA, .op .sbcAB, .op .sbcAC,
   .op .sbcAD, .op .sbcAE, .op .sbcAH, .op .sbcAL, .op .sbcAAtHl, .op .sbcAA]

/-- Row Ax of the primary grid (R116). -/
def primaryRowA : List Entry :=
  [.op .andB, .op .andC, .op .andD, .op .andE, .op .andH, .op .andL, .op .andAtHl, .op .andA, .op .xorB, .op .xorC,
   .op .xorD, .op .xorE, .op .xorH, .op .xorL, .op .xorAtHl, .op .xorA]

/-- Row Bx of the primary grid (R116). -/
def primaryRowB : List Entry :=
  [.op .orB, .op .orC, .op .orD, .op .orE, .op .orH, .op .orL, .op .orAtHl, .op .orA, .op .cpB, .op .cpC, .op .cpD,
   .op .cpE, .op .cpH, .op .cpL, .op .cpAtHl, .op .cpA]

/-- Row Cx of the primary grid (R116). -/
def primaryRowC : List Entry :=
  [.op .retNz, .op .popBc, .opWord .jpNzNn, .opWord .jpNn, .opWord .callNzNn, .op .pushBc, .opByte .addAN,
   .op .rst00, .op .retZ, .op .ret, .opWord .jpZNn, .page, .opWord .callZNn, .opWord .callNn, .opByte .adcAN,
   .op .rst08]

/-- Row Dx of the primary grid (R116). -/
def primaryRowD : List Entry :=
  [.op .retNc, .op .popDe, .opWord .jpNcNn, .op (.illegal 0xD3), .opWord .callNcNn, .op .pushDe, .opByte .subN,
   .op .rst10, .op .retC, .op .reti, .opWord .jpCNn, .op (.illegal 0xDB), .opWord .callCNn, .op (.illegal 0xDD),
   .opByte .sbcAN, .op .rst18]

/-- Row Ex of the primary grid (R116). -/
def primaryRowE : List Entry :=
  [.opByte .ldhAtNA, .op .popHl, .op .ldhAtCA, .op (.illegal 0xE3), .op (.illegal 0xE4), .op .pushHl, .opByte .andN,
   .op .rst20, .opByte .addSpDisp, .op .jpHl, .opWord .ldAtNnA, .op (.illegal 0xEB), .op (.illegal 0xEC),
   .op (.illegal 0xED), .opByte .xorN, .op .rst28]

/-- Row Fx of the primary grid (R116). -/
def primaryRowF : List Entry :=
  [.opByte .ldhAAtN, .op .popAf, .op .ldhAAtC, .op .di, .op (.illegal 0xF4), .op .pushAf, .opByte .orN, .op .rst30,
   .opByte .ldHlSpDisp, .op .ldSpHl, .opWord .ldAAtNn, .op .ei, .op (.illegal 0xFC), .op (.illegal 0xFD),
   .opByte .cpN, .op .rst38]

/-- The primary table (R111 to R114, R116). -/
def primaryTable : List (List Entry) :=
  [primaryRow0, primaryRow1, primaryRow2, primaryRow3, primaryRow4, primaryRow5, primaryRow6, primaryRow7] ++
  [primaryRow8, primaryRow9, primaryRowA, primaryRowB, primaryRowC, primaryRowD, primaryRowE, primaryRowF]

/-- Row 0x of the prefixed grid (R117). -/
def secondaryRow0 : List Instr :=
  [.rlcB, .rlcC, .rlcD, .rlcE, .rlcH, .rlcL, .rlcAtHl, .rlcA, .rrcB, .rrcC, .rrcD, .rrcE, .rrcH, .rrcL, .rrcAtHl,
   .rrcA]

/-- Row 1x of the prefixed grid (R117). -/
def secondaryRow1 : List Instr :=
  [.rlB, .rlC, .rlD, .rlE, .rlH, .rlL, .rlAtHl, .rlA, .rrB, .rrC, .rrD, .rrE, .rrH, .rrL, .rrAtHl, .rrA]

/-- Row 2x of the prefixed grid (R117). -/
def secondaryRow2 : List Instr :=
  [.slaB, .slaC, .slaD, .slaE, .slaH, .slaL, .slaAtHl, .slaA, .sraB, .sraC, .sraD, .sraE, .sraH, .sraL, .sraAtHl,
   .sraA]

/-- Row 3x of the prefixed grid (R117). -/
def secondaryRow3 : List Instr :=
  [.swapB, .swapC, .swapD, .swapE, .swapH, .swapL, .swapAtHl, .swapA, .srlB, .srlC, .srlD, .srlE, .srlH, .srlL,
   .srlAtHl, .srlA]

/-- Row 4x of the prefixed grid (R117). -/
def secondaryRow4 : List Instr :=
  [.bit0B, .bit0C, .bit0D, .bit0E, .bit0H, .bit0L, .bit0AtHl, .bit0A, .bit1B, .bit1C, .bit1D, .bit1E, .bit1H, .bit1L,
   .bit1AtHl, .bit1A]

/-- Row 5x of the prefixed grid (R117). -/
def secondaryRow5 : List Instr :=
  [.bit2B, .bit2C, .bit2D, .bit2E, .bit2H, .bit2L, .bit2AtHl, .bit2A, .bit3B, .bit3C, .bit3D, .bit3E, .bit3H, .bit3L,
   .bit3AtHl, .bit3A]

/-- Row 6x of the prefixed grid (R117). -/
def secondaryRow6 : List Instr :=
  [.bit4B, .bit4C, .bit4D, .bit4E, .bit4H, .bit4L, .bit4AtHl, .bit4A, .bit5B, .bit5C, .bit5D, .bit5E, .bit5H, .bit5L,
   .bit5AtHl, .bit5A]

/-- Row 7x of the prefixed grid (R117). -/
def secondaryRow7 : List Instr :=
  [.bit6B, .bit6C, .bit6D, .bit6E, .bit6H, .bit6L, .bit6AtHl, .bit6A, .bit7B, .bit7C, .bit7D, .bit7E, .bit7H, .bit7L,
   .bit7AtHl, .bit7A]

/-- Row 8x of the prefixed grid (R117). -/
def secondaryRow8 : List Instr :=
  [.res0B, .res0C, .res0D, .res0E, .res0H, .res0L, .res0AtHl, .res0A, .res1B, .res1C, .res1D, .res1E, .res1H, .res1L,
   .res1AtHl, .res1A]

/-- Row 9x of the prefixed grid (R117). -/
def secondaryRow9 : List Instr :=
  [.res2B, .res2C, .res2D, .res2E, .res2H, .res2L, .res2AtHl, .res2A, .res3B, .res3C, .res3D, .res3E, .res3H, .res3L,
   .res3AtHl, .res3A]

/-- Row Ax of the prefixed grid (R117). -/
def secondaryRowA : List Instr :=
  [.res4B, .res4C, .res4D, .res4E, .res4H, .res4L, .res4AtHl, .res4A, .res5B, .res5C, .res5D, .res5E, .res5H, .res5L,
   .res5AtHl, .res5A]

/-- Row Bx of the prefixed grid (R117). -/
def secondaryRowB : List Instr :=
  [.res6B, .res6C, .res6D, .res6E, .res6H, .res6L, .res6AtHl, .res6A, .res7B, .res7C, .res7D, .res7E, .res7H, .res7L,
   .res7AtHl, .res7A]

/-- Row Cx of the prefixed grid (R117). The spec contradicts itself on `CB CB`: R115, this grid, R244 and the opcode table
make it `SET 1,E`, and a sentence of R285 calls it `SWAP E`. It is `SET 1,E` here (DEDUCED, unsafe, entry 23). -/
def secondaryRowC : List Instr :=
  [.set0B, .set0C, .set0D, .set0E, .set0H, .set0L, .set0AtHl, .set0A, .set1B, .set1C, .set1D, .set1E, .set1H, .set1L,
   .set1AtHl, .set1A]

/-- Row Dx of the prefixed grid (R117). -/
def secondaryRowD : List Instr :=
  [.set2B, .set2C, .set2D, .set2E, .set2H, .set2L, .set2AtHl, .set2A, .set3B, .set3C, .set3D, .set3E, .set3H, .set3L,
   .set3AtHl, .set3A]

/-- Row Ex of the prefixed grid (R117). -/
def secondaryRowE : List Instr :=
  [.set4B, .set4C, .set4D, .set4E, .set4H, .set4L, .set4AtHl, .set4A, .set5B, .set5C, .set5D, .set5E, .set5H, .set5L,
   .set5AtHl, .set5A]

/-- Row Fx of the prefixed grid (R117). -/
def secondaryRowF : List Instr :=
  [.set6B, .set6C, .set6D, .set6E, .set6H, .set6L, .set6AtHl, .set6A, .set7B, .set7C, .set7D, .set7E, .set7H, .set7L,
   .set7AtHl, .set7A]

/-- The prefixed table (R115, R117). -/
def secondaryTable : List (List Instr) :=
  [secondaryRow0, secondaryRow1, secondaryRow2, secondaryRow3, secondaryRow4, secondaryRow5, secondaryRow6,
   secondaryRow7] ++
  [secondaryRow8, secondaryRow9, secondaryRowA, secondaryRowB, secondaryRowC, secondaryRowD, secondaryRowE,
   secondaryRowF]

/-- The primary table's entry of an opcode byte. Every byte has one (R101, R116); the default is never taken. -/
def primary (op : Byte) : Entry :=
  (primaryTable.getD (op.toNat / 16) []).getD (op.toNat % 16) (.op (.illegal op))

/-- The prefixed table's entry of a second byte. Every byte has one (R115); the default is never taken. -/
def secondary (op2 : Byte) : Instr :=
  (secondaryTable.getD (op2.toNat / 16) []).getD (op2.toNat % 16) .prefixCb

/-- Decode the instruction at the head of a byte list: the instruction and the bytes after it (R100, R102). -/
def decode : List Byte → Except DecodeError (Instr × List Byte)
  | [] => .error .noByte
  | op :: rest =>
    match primary op, rest with
    | .op i, _ => .ok (i, rest)
    | .opByte f, n :: rest' => .ok (f n, rest')
    | .opWord f, lo :: hi :: rest' => .ok (f (Machine.pair hi lo), rest')
    | .page, op2 :: rest' => .ok (secondary op2, rest')
    | _, _ => .error (.truncated op)

/-- The instruction that three consecutive bytes begin with, and its length. Three bytes always suffice (R101), so
the fetch of R100 is total. -/
def decodeAt (b0 b1 b2 : Byte) : Instr × Nat :=
  match primary b0 with
  | .op i => (i, 1)
  | .opByte f => (f b1, 2)
  | .opWord f => (f (Machine.pair b2 b1), 3)
  | .page => (secondary b1, 2)

/-- The bytes of an instruction, opcode first (R86, R102). The prefix byte alone is no whole instruction (R285). -/
def encode : Instr → List Byte
  | .ldBcNn nn => [0x01, Machine.lo8 nn, Machine.hi8 nn]
  | .ldBN n => [0x06, n]
  | .ldAtNnSp nn => [0x08, Machine.lo8 nn, Machine.hi8 nn]
  | .ldCN n => [0x0E, n]
  | .stop n => [0x10, n]
  | .ldDeNn nn => [0x11, Machine.lo8 nn, Machine.hi8 nn]
  | .ldDN n => [0x16, n]
  | .jrDisp e => [0x18, e]
  | .ldEN n => [0x1E, n]
  | .jrNzDisp e => [0x20, e]
  | .ldHlNn nn => [0x21, Machine.lo8 nn, Machine.hi8 nn]
  | .ldHN n => [0x26, n]
  | .jrZDisp e => [0x28, e]
  | .ldLN n => [0x2E, n]
  | .jrNcDisp e => [0x30, e]
  | .ldSpNn nn => [0x31, Machine.lo8 nn, Machine.hi8 nn]
  | .ldAtHlN n => [0x36, n]
  | .jrCDisp e => [0x38, e]
  | .ldAN n => [0x3E, n]
  | .jpNzNn nn => [0xC2, Machine.lo8 nn, Machine.hi8 nn]
  | .jpNn nn => [0xC3, Machine.lo8 nn, Machine.hi8 nn]
  | .callNzNn nn => [0xC4, Machine.lo8 nn, Machine.hi8 nn]
  | .addAN n => [0xC6, n]
  | .jpZNn nn => [0xCA, Machine.lo8 nn, Machine.hi8 nn]
  | .callZNn nn => [0xCC, Machine.lo8 nn, Machine.hi8 nn]
  | .callNn nn => [0xCD, Machine.lo8 nn, Machine.hi8 nn]
  | .adcAN n => [0xCE, n]
  | .jpNcNn nn => [0xD2, Machine.lo8 nn, Machine.hi8 nn]
  | .illegal op => [op]
  | .callNcNn nn => [0xD4, Machine.lo8 nn, Machine.hi8 nn]
  | .subN n => [0xD6, n]
  | .jpCNn nn => [0xDA, Machine.lo8 nn, Machine.hi8 nn]
  | .callCNn nn => [0xDC, Machine.lo8 nn, Machine.hi8 nn]
  | .sbcAN n => [0xDE, n]
  | .ldhAtNA n => [0xE0, n]
  | .andN n => [0xE6, n]
  | .addSpDisp e => [0xE8, e]
  | .ldAtNnA nn => [0xEA, Machine.lo8 nn, Machine.hi8 nn]
  | .xorN n => [0xEE, n]
  | .ldhAAtN n => [0xF0, n]
  | .orN n => [0xF6, n]
  | .ldHlSpDisp e => [0xF8, e]
  | .ldAAtNn nn => [0xFA, Machine.lo8 nn, Machine.hi8 nn]
  | .cpN n => [0xFE, n]
  | .nop => [0x00]
  | .ldAtBcA => [0x02]
  | .incBc => [0x03]
  | .incB => [0x04]
  | .decB => [0x05]
  | .rlca => [0x07]
  | .addHlBc => [0x09]
  | .ldAAtBc => [0x0A]
  | .decBc => [0x0B]
  | .incC => [0x0C]
  | .decC => [0x0D]
  | .rrca => [0x0F]
  | .ldAtDeA => [0x12]
  | .incDe => [0x13]
  | .incD => [0x14]
  | .decD => [0x15]
  | .rla => [0x17]
  | .addHlDe => [0x19]
  | .ldAAtDe => [0x1A]
  | .decDe => [0x1B]
  | .incE => [0x1C]
  | .decE => [0x1D]
  | .rra => [0x1F]
  | .ldAtHlIncA => [0x22]
  | .incHl => [0x23]
  | .incH => [0x24]
  | .decH => [0x25]
  | .daa => [0x27]
  | .addHlHl => [0x29]
  | .ldAAtHlInc => [0x2A]
  | .decHl => [0x2B]
  | .incL => [0x2C]
  | .decL => [0x2D]
  | .cpl => [0x2F]
  | .ldAtHlDecA => [0x32]
  | .incSp => [0x33]
  | .incAtHl => [0x34]
  | .decAtHl => [0x35]
  | .scf => [0x37]
  | .addHlSp => [0x39]
  | .ldAAtHlDec => [0x3A]
  | .decSp => [0x3B]
  | .incA => [0x3C]
  | .decA => [0x3D]
  | .ccf => [0x3F]
  | .ldBB => [0x40]
  | .ldBC => [0x41]
  | .ldBD => [0x42]
  | .ldBE => [0x43]
  | .ldBH => [0x44]
  | .ldBL => [0x45]
  | .ldBAtHl => [0x46]
  | .ldBA => [0x47]
  | .ldCB => [0x48]
  | .ldCC => [0x49]
  | .ldCD => [0x4A]
  | .ldCE => [0x4B]
  | .ldCH => [0x4C]
  | .ldCL => [0x4D]
  | .ldCAtHl => [0x4E]
  | .ldCA => [0x4F]
  | .ldDB => [0x50]
  | .ldDC => [0x51]
  | .ldDD => [0x52]
  | .ldDE => [0x53]
  | .ldDH => [0x54]
  | .ldDL => [0x55]
  | .ldDAtHl => [0x56]
  | .ldDA => [0x57]
  | .ldEB => [0x58]
  | .ldEC => [0x59]
  | .ldED => [0x5A]
  | .ldEE => [0x5B]
  | .ldEH => [0x5C]
  | .ldEL => [0x5D]
  | .ldEAtHl => [0x5E]
  | .ldEA => [0x5F]
  | .ldHB => [0x60]
  | .ldHC => [0x61]
  | .ldHD => [0x62]
  | .ldHE => [0x63]
  | .ldHH => [0x64]
  | .ldHL => [0x65]
  | .ldHAtHl => [0x66]
  | .ldHA => [0x67]
  | .ldLB => [0x68]
  | .ldLC => [0x69]
  | .ldLD => [0x6A]
  | .ldLE => [0x6B]
  | .ldLH => [0x6C]
  | .ldLL => [0x6D]
  | .ldLAtHl => [0x6E]
  | .ldLA => [0x6F]
  | .ldAtHlB => [0x70]
  | .ldAtHlC => [0x71]
  | .ldAtHlD => [0x72]
  | .ldAtHlE => [0x73]
  | .ldAtHlH => [0x74]
  | .ldAtHlL => [0x75]
  | .halt => [0x76]
  | .ldAtHlA => [0x77]
  | .ldAB => [0x78]
  | .ldAC => [0x79]
  | .ldAD => [0x7A]
  | .ldAE => [0x7B]
  | .ldAH => [0x7C]
  | .ldAL => [0x7D]
  | .ldAAtHl => [0x7E]
  | .ldAA => [0x7F]
  | .addAB => [0x80]
  | .addAC => [0x81]
  | .addAD => [0x82]
  | .addAE => [0x83]
  | .addAH => [0x84]
  | .addAL => [0x85]
  | .addAAtHl => [0x86]
  | .addAA => [0x87]
  | .adcAB => [0x88]
  | .adcAC => [0x89]
  | .adcAD => [0x8A]
  | .adcAE => [0x8B]
  | .adcAH => [0x8C]
  | .adcAL => [0x8D]
  | .adcAAtHl => [0x8E]
  | .adcAA => [0x8F]
  | .subB => [0x90]
  | .subC => [0x91]
  | .subD => [0x92]
  | .subE => [0x93]
  | .subH => [0x94]
  | .subL => [0x95]
  | .subAtHl => [0x96]
  | .subA => [0x97]
  | .sbcAB => [0x98]
  | .sbcAC => [0x99]
  | .sbcAD => [0x9A]
  | .sbcAE => [0x9B]
  | .sbcAH => [0x9C]
  | .sbcAL => [0x9D]
  | .sbcAAtHl => [0x9E]
  | .sbcAA => [0x9F]
  | .andB => [0xA0]
  | .andC => [0xA1]
  | .andD => [0xA2]
  | .andE => [0xA3]
  | .andH => [0xA4]
  | .andL => [0xA5]
  | .andAtHl => [0xA6]
  | .andA => [0xA7]
  | .xorB => [0xA8]
  | .xorC => [0xA9]
  | .xorD => [0xAA]
  | .xorE => [0xAB]
  | .xorH => [0xAC]
  | .xorL => [0xAD]
  | .xorAtHl => [0xAE]
  | .xorA => [0xAF]
  | .orB => [0xB0]
  | .orC => [0xB1]
  | .orD => [0xB2]
  | .orE => [0xB3]
  | .orH => [0xB4]
  | .orL => [0xB5]
  | .orAtHl => [0xB6]
  | .orA => [0xB7]
  | .cpB => [0xB8]
  | .cpC => [0xB9]
  | .cpD => [0xBA]
  | .cpE => [0xBB]
  | .cpH => [0xBC]
  | .cpL => [0xBD]
  | .cpAtHl => [0xBE]
  | .cpA => [0xBF]
  | .retNz => [0xC0]
  | .popBc => [0xC1]
  | .pushBc => [0xC5]
  | .rst00 => [0xC7]
  | .retZ => [0xC8]
  | .ret => [0xC9]
  | .prefixCb => [0xCB]
  | .rst08 => [0xCF]
  | .retNc => [0xD0]
  | .popDe => [0xD1]
  | .pushDe => [0xD5]
  | .rst10 => [0xD7]
  | .retC => [0xD8]
  | .reti => [0xD9]
  | .rst18 => [0xDF]
  | .popHl => [0xE1]
  | .ldhAtCA => [0xE2]
  | .pushHl => [0xE5]
  | .rst20 => [0xE7]
  | .jpHl => [0xE9]
  | .rst28 => [0xEF]
  | .popAf => [0xF1]
  | .ldhAAtC => [0xF2]
  | .di => [0xF3]
  | .pushAf => [0xF5]
  | .rst30 => [0xF7]
  | .ldSpHl => [0xF9]
  | .ei => [0xFB]
  | .rst38 => [0xFF]
  | .rlcB => [0xCB, 0x00]
  | .rlcC => [0xCB, 0x01]
  | .rlcD => [0xCB, 0x02]
  | .rlcE => [0xCB, 0x03]
  | .rlcH => [0xCB, 0x04]
  | .rlcL => [0xCB, 0x05]
  | .rlcAtHl => [0xCB, 0x06]
  | .rlcA => [0xCB, 0x07]
  | .rrcB => [0xCB, 0x08]
  | .rrcC => [0xCB, 0x09]
  | .rrcD => [0xCB, 0x0A]
  | .rrcE => [0xCB, 0x0B]
  | .rrcH => [0xCB, 0x0C]
  | .rrcL => [0xCB, 0x0D]
  | .rrcAtHl => [0xCB, 0x0E]
  | .rrcA => [0xCB, 0x0F]
  | .rlB => [0xCB, 0x10]
  | .rlC => [0xCB, 0x11]
  | .rlD => [0xCB, 0x12]
  | .rlE => [0xCB, 0x13]
  | .rlH => [0xCB, 0x14]
  | .rlL => [0xCB, 0x15]
  | .rlAtHl => [0xCB, 0x16]
  | .rlA => [0xCB, 0x17]
  | .rrB => [0xCB, 0x18]
  | .rrC => [0xCB, 0x19]
  | .rrD => [0xCB, 0x1A]
  | .rrE => [0xCB, 0x1B]
  | .rrH => [0xCB, 0x1C]
  | .rrL => [0xCB, 0x1D]
  | .rrAtHl => [0xCB, 0x1E]
  | .rrA => [0xCB, 0x1F]
  | .slaB => [0xCB, 0x20]
  | .slaC => [0xCB, 0x21]
  | .slaD => [0xCB, 0x22]
  | .slaE => [0xCB, 0x23]
  | .slaH => [0xCB, 0x24]
  | .slaL => [0xCB, 0x25]
  | .slaAtHl => [0xCB, 0x26]
  | .slaA => [0xCB, 0x27]
  | .sraB => [0xCB, 0x28]
  | .sraC => [0xCB, 0x29]
  | .sraD => [0xCB, 0x2A]
  | .sraE => [0xCB, 0x2B]
  | .sraH => [0xCB, 0x2C]
  | .sraL => [0xCB, 0x2D]
  | .sraAtHl => [0xCB, 0x2E]
  | .sraA => [0xCB, 0x2F]
  | .swapB => [0xCB, 0x30]
  | .swapC => [0xCB, 0x31]
  | .swapD => [0xCB, 0x32]
  | .swapE => [0xCB, 0x33]
  | .swapH => [0xCB, 0x34]
  | .swapL => [0xCB, 0x35]
  | .swapAtHl => [0xCB, 0x36]
  | .swapA => [0xCB, 0x37]
  | .srlB => [0xCB, 0x38]
  | .srlC => [0xCB, 0x39]
  | .srlD => [0xCB, 0x3A]
  | .srlE => [0xCB, 0x3B]
  | .srlH => [0xCB, 0x3C]
  | .srlL => [0xCB, 0x3D]
  | .srlAtHl => [0xCB, 0x3E]
  | .srlA => [0xCB, 0x3F]
  | .bit0B => [0xCB, 0x40]
  | .bit0C => [0xCB, 0x41]
  | .bit0D => [0xCB, 0x42]
  | .bit0E => [0xCB, 0x43]
  | .bit0H => [0xCB, 0x44]
  | .bit0L => [0xCB, 0x45]
  | .bit0AtHl => [0xCB, 0x46]
  | .bit0A => [0xCB, 0x47]
  | .bit1B => [0xCB, 0x48]
  | .bit1C => [0xCB, 0x49]
  | .bit1D => [0xCB, 0x4A]
  | .bit1E => [0xCB, 0x4B]
  | .bit1H => [0xCB, 0x4C]
  | .bit1L => [0xCB, 0x4D]
  | .bit1AtHl => [0xCB, 0x4E]
  | .bit1A => [0xCB, 0x4F]
  | .bit2B => [0xCB, 0x50]
  | .bit2C => [0xCB, 0x51]
  | .bit2D => [0xCB, 0x52]
  | .bit2E => [0xCB, 0x53]
  | .bit2H => [0xCB, 0x54]
  | .bit2L => [0xCB, 0x55]
  | .bit2AtHl => [0xCB, 0x56]
  | .bit2A => [0xCB, 0x57]
  | .bit3B => [0xCB, 0x58]
  | .bit3C => [0xCB, 0x59]
  | .bit3D => [0xCB, 0x5A]
  | .bit3E => [0xCB, 0x5B]
  | .bit3H => [0xCB, 0x5C]
  | .bit3L => [0xCB, 0x5D]
  | .bit3AtHl => [0xCB, 0x5E]
  | .bit3A => [0xCB, 0x5F]
  | .bit4B => [0xCB, 0x60]
  | .bit4C => [0xCB, 0x61]
  | .bit4D => [0xCB, 0x62]
  | .bit4E => [0xCB, 0x63]
  | .bit4H => [0xCB, 0x64]
  | .bit4L => [0xCB, 0x65]
  | .bit4AtHl => [0xCB, 0x66]
  | .bit4A => [0xCB, 0x67]
  | .bit5B => [0xCB, 0x68]
  | .bit5C => [0xCB, 0x69]
  | .bit5D => [0xCB, 0x6A]
  | .bit5E => [0xCB, 0x6B]
  | .bit5H => [0xCB, 0x6C]
  | .bit5L => [0xCB, 0x6D]
  | .bit5AtHl => [0xCB, 0x6E]
  | .bit5A => [0xCB, 0x6F]
  | .bit6B => [0xCB, 0x70]
  | .bit6C => [0xCB, 0x71]
  | .bit6D => [0xCB, 0x72]
  | .bit6E => [0xCB, 0x73]
  | .bit6H => [0xCB, 0x74]
  | .bit6L => [0xCB, 0x75]
  | .bit6AtHl => [0xCB, 0x76]
  | .bit6A => [0xCB, 0x77]
  | .bit7B => [0xCB, 0x78]
  | .bit7C => [0xCB, 0x79]
  | .bit7D => [0xCB, 0x7A]
  | .bit7E => [0xCB, 0x7B]
  | .bit7H => [0xCB, 0x7C]
  | .bit7L => [0xCB, 0x7D]
  | .bit7AtHl => [0xCB, 0x7E]
  | .bit7A => [0xCB, 0x7F]
  | .res0B => [0xCB, 0x80]
  | .res0C => [0xCB, 0x81]
  | .res0D => [0xCB, 0x82]
  | .res0E => [0xCB, 0x83]
  | .res0H => [0xCB, 0x84]
  | .res0L => [0xCB, 0x85]
  | .res0AtHl => [0xCB, 0x86]
  | .res0A => [0xCB, 0x87]
  | .res1B => [0xCB, 0x88]
  | .res1C => [0xCB, 0x89]
  | .res1D => [0xCB, 0x8A]
  | .res1E => [0xCB, 0x8B]
  | .res1H => [0xCB, 0x8C]
  | .res1L => [0xCB, 0x8D]
  | .res1AtHl => [0xCB, 0x8E]
  | .res1A => [0xCB, 0x8F]
  | .res2B => [0xCB, 0x90]
  | .res2C => [0xCB, 0x91]
  | .res2D => [0xCB, 0x92]
  | .res2E => [0xCB, 0x93]
  | .res2H => [0xCB, 0x94]
  | .res2L => [0xCB, 0x95]
  | .res2AtHl => [0xCB, 0x96]
  | .res2A => [0xCB, 0x97]
  | .res3B => [0xCB, 0x98]
  | .res3C => [0xCB, 0x99]
  | .res3D => [0xCB, 0x9A]
  | .res3E => [0xCB, 0x9B]
  | .res3H => [0xCB, 0x9C]
  | .res3L => [0xCB, 0x9D]
  | .res3AtHl => [0xCB, 0x9E]
  | .res3A => [0xCB, 0x9F]
  | .res4B => [0xCB, 0xA0]
  | .res4C => [0xCB, 0xA1]
  | .res4D => [0xCB, 0xA2]
  | .res4E => [0xCB, 0xA3]
  | .res4H => [0xCB, 0xA4]
  | .res4L => [0xCB, 0xA5]
  | .res4AtHl => [0xCB, 0xA6]
  | .res4A => [0xCB, 0xA7]
  | .res5B => [0xCB, 0xA8]
  | .res5C => [0xCB, 0xA9]
  | .res5D => [0xCB, 0xAA]
  | .res5E => [0xCB, 0xAB]
  | .res5H => [0xCB, 0xAC]
  | .res5L => [0xCB, 0xAD]
  | .res5AtHl => [0xCB, 0xAE]
  | .res5A => [0xCB, 0xAF]
  | .res6B => [0xCB, 0xB0]
  | .res6C => [0xCB, 0xB1]
  | .res6D => [0xCB, 0xB2]
  | .res6E => [0xCB, 0xB3]
  | .res6H => [0xCB, 0xB4]
  | .res6L => [0xCB, 0xB5]
  | .res6AtHl => [0xCB, 0xB6]
  | .res6A => [0xCB, 0xB7]
  | .res7B => [0xCB, 0xB8]
  | .res7C => [0xCB, 0xB9]
  | .res7D => [0xCB, 0xBA]
  | .res7E => [0xCB, 0xBB]
  | .res7H => [0xCB, 0xBC]
  | .res7L => [0xCB, 0xBD]
  | .res7AtHl => [0xCB, 0xBE]
  | .res7A => [0xCB, 0xBF]
  | .set0B => [0xCB, 0xC0]
  | .set0C => [0xCB, 0xC1]
  | .set0D => [0xCB, 0xC2]
  | .set0E => [0xCB, 0xC3]
  | .set0H => [0xCB, 0xC4]
  | .set0L => [0xCB, 0xC5]
  | .set0AtHl => [0xCB, 0xC6]
  | .set0A => [0xCB, 0xC7]
  | .set1B => [0xCB, 0xC8]
  | .set1C => [0xCB, 0xC9]
  | .set1D => [0xCB, 0xCA]
  | .set1E => [0xCB, 0xCB]
  | .set1H => [0xCB, 0xCC]
  | .set1L => [0xCB, 0xCD]
  | .set1AtHl => [0xCB, 0xCE]
  | .set1A => [0xCB, 0xCF]
  | .set2B => [0xCB, 0xD0]
  | .set2C => [0xCB, 0xD1]
  | .set2D => [0xCB, 0xD2]
  | .set2E => [0xCB, 0xD3]
  | .set2H => [0xCB, 0xD4]
  | .set2L => [0xCB, 0xD5]
  | .set2AtHl => [0xCB, 0xD6]
  | .set2A => [0xCB, 0xD7]
  | .set3B => [0xCB, 0xD8]
  | .set3C => [0xCB, 0xD9]
  | .set3D => [0xCB, 0xDA]
  | .set3E => [0xCB, 0xDB]
  | .set3H => [0xCB, 0xDC]
  | .set3L => [0xCB, 0xDD]
  | .set3AtHl => [0xCB, 0xDE]
  | .set3A => [0xCB, 0xDF]
  | .set4B => [0xCB, 0xE0]
  | .set4C => [0xCB, 0xE1]
  | .set4D => [0xCB, 0xE2]
  | .set4E => [0xCB, 0xE3]
  | .set4H => [0xCB, 0xE4]
  | .set4L => [0xCB, 0xE5]
  | .set4AtHl => [0xCB, 0xE6]
  | .set4A => [0xCB, 0xE7]
  | .set5B => [0xCB, 0xE8]
  | .set5C => [0xCB, 0xE9]
  | .set5D => [0xCB, 0xEA]
  | .set5E => [0xCB, 0xEB]
  | .set5H => [0xCB, 0xEC]
  | .set5L => [0xCB, 0xED]
  | .set5AtHl => [0xCB, 0xEE]
  | .set5A => [0xCB, 0xEF]
  | .set6B => [0xCB, 0xF0]
  | .set6C => [0xCB, 0xF1]
  | .set6D => [0xCB, 0xF2]
  | .set6E => [0xCB, 0xF3]
  | .set6H => [0xCB, 0xF4]
  | .set6L => [0xCB, 0xF5]
  | .set6AtHl => [0xCB, 0xF6]
  | .set6A => [0xCB, 0xF7]
  | .set7B => [0xCB, 0xF8]
  | .set7C => [0xCB, 0xF9]
  | .set7D => [0xCB, 0xFA]
  | .set7E => [0xCB, 0xFB]
  | .set7H => [0xCB, 0xFC]
  | .set7L => [0xCB, 0xFD]
  | .set7AtHl => [0xCB, 0xFE]
  | .set7A => [0xCB, 0xFF]

/-- The bytes of a word of spec/opcode_table.json of `nbits` bits, zero-filled to the longest instruction. Byte 0
is bits 7..0 and later bytes count on, except that R121 numbers a prefixed row `byte 0 × 256 + byte 1`: a word of
more than 8 bits whose bits 15..8 are the prefix byte is read so (DEDUCED, entry 13). -/
def tableBytes (nbits w : Nat) : List Byte :=
  let byte := fun k => BitVec.ofNat 8 (w / 256 ^ k)
  if 8 < nbits ∧ byte 1 = 0xCB then [byte 1, byte 0, byte 2]
  else [byte 0, byte 1, byte 2]

/-- The instruction the decoder reads from a word of the opcode table. -/
def decodeTableWord (nbits w : Nat) : Option Instr :=
  match decode (tableBytes nbits w) with
  | .ok (i, _) => some i
  | .error _ => none

end Sys2Proof
end

