-- ==== Sys2Proof/Config.lean ====
section
/-!
DEFINITION. The parameters the spec leaves open (R9 of spec/00_scope.md). They are plain data, held in the machine's
state and never written by a step (R48), so a statement about every state is a statement about every choice of them.
No result of this machine is undefined (93_implementation_defined.md, section 1), so there is no free
value here.
-/

namespace Sys2Proof

/-- Which nibble of the flag byte holds the four flags (R27, decision D6). -/
inductive FlagNibble where
  | low
  | high
  deriving DecidableEq, Repr

/-- The parameters of R9 with its defaults. An image is total: a byte it does not list is 0x00
(DESIGN CHOICE, entry 5), so the length conditions of R9 and R400 always hold. The default cartridge image is the
all-zero one of the spec's test vectors (DESIGN CHOICE, entry 1: R9 gives none). -/
structure Config where
  /-- `FLAG_NIBBLE` (R27). -/
  flagNibble : FlagNibble := .low
  /-- `INT_SERVICE_CYCLES` (R366). -/
  intServiceCycles : Nat := 20
  /-- `VBLANK_LINES` (R300). -/
  vblankLines : Nat := 10
  /-- `CART_IMAGE` (R48, R52). -/
  cartImage : Memory := []
  /-- `BOOT_IMAGE`: absent, or 256 bytes (R52, R400). -/
  bootImage : Option Memory := none
  deriving DecidableEq, Repr

end Sys2Proof
end

