-- ==== Sys2Proof/Machine/Memory.lean ====
section
/-!
DEFINITION. The sparse byte memory: read, write, bulk copy, and its one canonical form.
-/

namespace Sys2Proof.Machine

/-- What a byte that no entry lists reads as: all storage is zero-initialised (R52). -/
def Memory.unlisted : Byte := 0x00

/-- The byte stored at an address. -/
def Memory.get : Memory → Nat → Byte
  | [], _ => Memory.unlisted
  | (k, w) :: m, a => if k = a then w else Memory.get m a

/-- Unlist an address. -/
def Memory.erase (m : Memory) (a : Nat) : Memory := m.filter fun cell => cell.1 != a

/-- List a byte at its place among rising addresses. -/
def Memory.insert : Memory → Nat → Byte → Memory
  | [], a, v => [(a, v)]
  | (k, w) :: m, a, v => if a < k then (a, v) :: (k, w) :: m else (k, w) :: Memory.insert m a v

/-- Store a byte, keeping the canonical form: storing what an unlisted byte reads as unlists the address. -/
def Memory.set (m : Memory) (a : Nat) (v : Byte) : Memory :=
  if v = Memory.unlisted then Memory.erase m a else Memory.insert (Memory.erase m a) a v

/-- Store consecutive bytes from an address on: `BulkCopy` (R73). -/
def Memory.copy : Memory → Nat → List Byte → Memory
  | m, _, [] => m
  | m, a, v :: vs => Memory.copy (Memory.set m a v) (a + 1) vs

/-- The `n` consecutive bytes from an address on. -/
def Memory.slice (m : Memory) (a n : Nat) : List Byte :=
  (List.range n).map fun i => Memory.get m (a + i)

/-- Every address of the memory is above `lo`, addresses rise strictly, and no entry equals what an unlisted byte
reads as. -/
def Memory.wfAbove : Option Nat → Memory → Bool
  | _, [] => true
  | lo, (k, w) :: m => (lo.all (· < k)) && (w != Memory.unlisted) && Memory.wfAbove (some k) m

/-- The canonical form: equal memories are equal lists. -/
def Memory.wf (m : Memory) : Bool := Memory.wfAbove none m

end Sys2Proof.Machine
end

