-- ==== Sys2Proof/Machine/State.lean ====
section
/-!
DEFINITION. The state of the machine (spec/10_state.md), the reasons a step can stop, and the state after reset
(R401 of spec/70_reset_and_hazards.md).
-/

namespace Sys2Proof.Machine

/-- The four flags, four booleans (R26). -/
structure Flags where
  /-- `Zf`, the result was zero. -/
  z : Bool
  /-- `Nf`, the last arithmetic operation was a subtraction. -/
  n : Bool
  /-- `Hf`, the half-carry. -/
  h : Bool
  /-- `Cf`, the carry. -/
  c : Bool
  deriving DecidableEq, Repr

/-- The register file (R20 to R25). The pairs and the flag byte `F` are views (R22, R27). -/
structure Regs where
  a : Byte
  flags : Flags
  b : Byte
  c : Byte
  d : Byte
  e : Byte
  h : Byte
  l : Byte
  sp : Word
  pc : Word
  deriving DecidableEq, Repr

/-- The Processor's run state (R36). -/
inductive RunState where
  | running
  | halted
  | stopped
  deriving DecidableEq, Repr

/-- The two kinds of fatal condition (R37). -/
inductive FatalKind where
  /-- An opcode byte absent from the dispatch table (R380). -/
  | unknownOpcode
  /-- An address matching no region; the address map is total, so nothing records it (R74, R382). -/
  | addressGap
  deriving DecidableEq, Repr

/-- The fatal record's contents (R37). -/
structure FatalRecord where
  kind : FatalKind
  address : Word
  opcode : Byte
  deriving DecidableEq, Repr

/-- The program-visible I/O registers other than `IE`, `IF` and `LY` (R41, R43, R81). -/
structure IoRegs where
  joySelDir : Bool
  joySelBtn : Bool
  lcdc : Byte
  statSel : Byte
  scy : Byte
  scx : Byte
  lyc : Byte
  /-- `DMAreg`, the last byte written to the DMA register. -/
  dma : Byte
  bgp : Byte
  obp0 : Byte
  obp1 : Byte
  wy : Byte
  wx : Byte
  /-- The stored byte of the boot-disable register (R81). -/
  boot : Byte
  deriving DecidableEq, Repr

/-- The PPU's modes (R42). -/
inductive PpuMode where
  | oamScan
  | pixelTransfer
  | hBlank
  | vBlank
  deriving DecidableEq, Repr

/-- A selected sprite: its index in OAM and copies of its four bytes (R44, R305). -/
structure Sprite where
  index : Nat
  y : Byte
  x : Byte
  tile : Byte
  attr : Byte
  deriving DecidableEq, Repr

/-- A decoded tile: 8 rows of 8 colour indexes (R45, R303). -/
abbrev Tile := List (List Colour)

/-- The PPU's own state (R42, R44 to R46). -/
structure Ppu where
  mode : PpuMode
  /-- The cycle accumulator. -/
  acc : Nat
  /-- The line counter `LY`. -/
  ly : Nat
  selected : List Sprite
  bgTiles : List Tile
  objTiles : List Tile
  /-- The framebuffer: 144 rows of 160 shades. -/
  fb : List (List Colour)
  deriving DecidableEq, Repr

/-- The host's inputs of one iteration: the eight signals, true while pressed, and the stop request (R41, R350). -/
structure HostInput where
  right : Bool
  left : Bool
  up : Bool
  down : Bool
  a : Bool
  b : Bool
  select : Bool
  start : Bool
  stopRequested : Bool
  deriving DecidableEq, Repr

/-- The whole machine. -/
structure State where
  regs : Regs
  /-- `IME`, the master enable (R33). -/
  ime : Bool
  /-- `IE`, the enable byte (R33). -/
  ie : Byte
  /-- `IF`, the request byte (R33). -/
  iflag : Byte
  runState : RunState
  /-- The fatal record (R37). -/
  fatal : Option FatalRecord
  /-- The bytes of rom, vram, xram, wram, oam, hram and the unassigned I/O bytes, each at its bus address
  (R38, R40; entry 6). -/
  mem : Memory
  /-- The boot overlay is mapped (R39). -/
  bootActive : Bool
  io : IoRegs
  ppu : Ppu
  /-- The host's inputs of the current iteration (R350). -/
  input : HostInput
  /-- The inputs the host will set in the coming iterations (the model's own field, entry 3). -/
  hostQueue : List HostInput
  /-- 1 in an iteration whose PPU tick entered VBlank (R47). -/
  frameReady : Bool
  /-- The fatal report made in this iteration (R349; the model's own field, entry 8). -/
  report : Option FatalRecord
  /-- The orchestrator's stop flag (R47). -/
  stopFlag : Bool
  /-- The cycles the last Processor tick returned (R341; the model's own field, entry 4). -/
  cycles : Nat
  /-- The parameters of the run (R9, R48). -/
  cfg : Config
  deriving DecidableEq, Repr

/-- Why a step gives no next state. -/
inductive Fault where
  /-- Raised by `step` alone, in a state whose stop flag is set: the orchestrator's loop has exited, so there is no
  further iteration (R348, R352). Safe: the machine does not go on either. -/
  | runEnded
  deriving DecidableEq, Repr

/-- Why an instruction has no meaning. -/
inductive Refusal where
  /-- Raised by an arm of `exec` for an instruction not modelled yet, under the mnemonic of the opcode table. No arm
  raises it now. Safe: the model stops. -/
  | notModelled (mnemonic : String)
  deriving DecidableEq, Repr

/-- What a meaning, a tick and a step answer. -/
abbrev Result := Host.Outcome State Fault Refusal

/-- No input pressed, no stop requested. -/
def HostInput.idle : HostInput :=
  { right := false, left := false, up := false, down := false, a := false, b := false, select := false,
    start := false, stopRequested := false }

/-- The register file after reset, the same in both configurations but for `pc` (R50). -/
def Regs.atReset (pc : Word) : Regs :=
  { a := 0x01, flags := { z := true, n := false, h := true, c := true }, b := 0x00, c := 0x13, d := 0x00, e := 0xD8,
    h := 0x01, l := 0x4D, sp := 0xFFFE, pc := pc }

/-- The I/O registers all zero: the boot-overlay configuration (R53). -/
def IoRegs.zero : IoRegs :=
  { joySelDir := false, joySelBtn := false, lcdc := 0, statSel := 0, scy := 0, scx := 0, lyc := 0, dma := 0, bgp := 0,
    obp0 := 0, obp1 := 0, wy := 0, wx := 0, boot := 0 }

/-- The I/O registers of the post-boot configuration (R53). -/
def IoRegs.postBoot : IoRegs :=
  { IoRegs.zero with lcdc := 0x91, bgp := 0xFC, obp0 := 0xFF, obp1 := 0xFF, dma := 0xFF, boot := 0x01 }

/-- A tile of colour index 0 everywhere. -/
def Tile.blank : Tile := List.replicate 8 (List.replicate 8 0)

/-- The PPU after reset (R54). -/
def Ppu.atReset : Ppu :=
  { mode := .oamScan, acc := 0, ly := 0, selected := [], bgTiles := List.replicate 256 Tile.blank,
    objTiles := List.replicate 256 Tile.blank, fb := List.replicate 144 (List.replicate 160 0) }

/-- Storage after reset: zero, then the cartridge image's first 0x8000 bytes, then the boot image over the first 256
(R52, R401 steps 1 to 3). -/
def Memory.atReset (cfg : Config) : Memory :=
  let rom := cfg.cartImage.filter fun cell => cell.1 < 0x8000
  match cfg.bootImage with
  | none => rom
  | some boot => Memory.copy rom 0 (Memory.slice boot 0 256)

/-- `Reset()` for any parameters (R401): post-boot without a boot image, boot-overlay with one. -/
def State.resetWith (cfg : Config) : State :=
  { regs := Regs.atReset (if cfg.bootImage.isSome then 0x0000 else 0x0100)
    ime := false
    ie := 0
    iflag := 0
    runState := .running
    fatal := none
    mem := Memory.atReset cfg
    bootActive := cfg.bootImage.isSome
    io := if cfg.bootImage.isSome then IoRegs.zero else IoRegs.postBoot
    ppu := Ppu.atReset
    input := HostInput.idle
    hostQueue := []
    frameReady := false
    report := none
    stopFlag := false
    cycles := 0
    cfg := cfg }

/-- The machine right after reset with the default parameters (R9): the post-boot configuration. -/
def State.reset : State := State.resetWith {}

end Sys2Proof.Machine
end

