-- ==== Sys2Proof/Machine/Operands.lean ====
section
/-!
DEFINITION. Every operand form: the registers and pairs by their codes (R104 to R107 of spec/30_encoding.md), the flag
byte (R27 to R29 of spec/10_state.md) and the address of the 0xFF00 page (R110). The `(HL)` operand is a byte of
memory at `State.hl`; the meanings reach it through the bus.
-/

namespace Sys2Proof

/-- The 3-bit code of a register (R104). -/
def Reg8.code : Reg8 → Nat
  | .b => 0
  | .c => 1
  | .d => 2
  | .e => 3
  | .h => 4
  | .l => 5
  | .a => 7

/-- The 2-bit code of an `rr` operand (R105). -/
def Reg16.code : Reg16 → Nat
  | .bc => 0
  | .de => 1
  | .hl => 2
  | .sp => 3

/-- The 2-bit code of a `qq` operand (R106). -/
def StackPair.code : StackPair → Nat
  | .bc => 0
  | .de => 1
  | .hl => 2
  | .af => 3

/-- The 2-bit code of a condition (R107). -/
def Cond.code : Cond → Nat
  | .nz => 0
  | .z => 1
  | .nc => 2
  | .c => 3

/-- The 3-bit code of a rotate-shift operation (R109). -/
def RotOp.code : RotOp → Nat
  | .rlc => 0
  | .rrc => 1
  | .rl => 2
  | .rr => 3
  | .sla => 4
  | .sra => 5
  | .swap => 6
  | .srl => 7

/-- The opcode byte with fields `x = op[7:6]`, `y = op[5:3]` and `z = op[2:0]` (R103). -/
def opcodeByte (x y z : Nat) : Byte := BitVec.ofNat 8 (64 * x + 8 * y + z)

/-- The 8-bit register of a 3-bit code; code 6 is `(HL)`, not a register (R104). -/
def Reg8.ofCode : Nat → Option Reg8
  | 0 => some .b
  | 1 => some .c
  | 2 => some .d
  | 3 => some .e
  | 4 => some .h
  | 5 => some .l
  | 7 => some .a
  | _ => none

/-- The rotate-shift operation of a 3-bit code (R109). -/
def RotOp.ofCode : Nat → RotOp
  | 0 => .rlc
  | 1 => .rrc
  | 2 => .rl
  | 3 => .rr
  | 4 => .sla
  | 5 => .sra
  | 6 => .swap
  | _ => .srl

end Sys2Proof

namespace Sys2Proof.Machine

/-- `x[r]` (R104). -/
def State.reg (s : State) : Reg8 → Byte
  | .b => s.regs.b
  | .c => s.regs.c
  | .d => s.regs.d
  | .e => s.regs.e
  | .h => s.regs.h
  | .l => s.regs.l
  | .a => s.regs.a

/-- `x[r] <- v` (R13, R104). -/
def State.setReg (s : State) (r : Reg8) (v : Byte) : State :=
  match r with
  | .b => { s with regs.b := v }
  | .c => { s with regs.c := v }
  | .d => { s with regs.d := v }
  | .e => { s with regs.e := v }
  | .h => { s with regs.h := v }
  | .l => { s with regs.l := v }
  | .a => { s with regs.a := v }

/-- `BC = pair(B, C)` (R22). -/
def State.bc (s : State) : Word := pair s.regs.b s.regs.c

/-- `DE = pair(D, E)` (R22). -/
def State.de (s : State) : Word := pair s.regs.d s.regs.e

/-- `HL = pair(H, L)` (R22). -/
def State.hl (s : State) : Word := pair s.regs.h s.regs.l

/-- `BC <- w` (R22). -/
def State.setBc (s : State) (w : Word) : State := { s with regs.b := hi8 w, regs.c := lo8 w }

/-- `DE <- w` (R22). -/
def State.setDe (s : State) (w : Word) : State := { s with regs.d := hi8 w, regs.e := lo8 w }

/-- `HL <- w` (R22). -/
def State.setHl (s : State) (w : Word) : State := { s with regs.h := hi8 w, regs.l := lo8 w }

/-- `rr[p]` (R105). -/
def State.rr (s : State) : Reg16 → Word
  | .bc => s.bc
  | .de => s.de
  | .hl => s.hl
  | .sp => s.regs.sp

/-- `rr[p] <- w` (R105). -/
def State.setRr (s : State) (p : Reg16) (w : Word) : State :=
  match p with
  | .bc => s.setBc w
  | .de => s.setDe w
  | .hl => s.setHl w
  | .sp => { s with regs.sp := w }

/-- `PackF()`: the flag byte for the current flags; the unused nibble reads 0 (R27, R28, R29). -/
def packF (layout : FlagNibble) (f : Flags) : Byte :=
  let nibble : Byte := bool8 f.z <<< 3 ||| bool8 f.n <<< 2 ||| bool8 f.h <<< 1 ||| bool8 f.c
  match layout with
  | .low => nibble
  | .high => nibble <<< 4

/-- `UnpackF(b)`: the four flags of a flag byte; the other four bits are discarded (R28, R29). -/
def unpackF (layout : FlagNibble) (b : Byte) : Flags :=
  match layout with
  | .low => { z := bitOf b 3, n := bitOf b 2, h := bitOf b 1, c := bitOf b 0 }
  | .high => { z := bitOf b 7, n := bitOf b 6, h := bitOf b 5, c := bitOf b 4 }

/-- `qq[p]`; `AF` is `pair(A, F)` (R22, R106). -/
def State.qq (s : State) : StackPair → Word
  | .bc => s.bc
  | .de => s.de
  | .hl => s.hl
  | .af => pair s.regs.a (packF s.cfg.flagNibble s.regs.flags)

/-- `qq[p] <- w`; writing `AF` masks the unused nibble of `F` (R22, R28, R166). -/
def State.setQq (s : State) (p : StackPair) (w : Word) : State :=
  match p with
  | .bc => s.setBc w
  | .de => s.setDe w
  | .hl => s.setHl w
  | .af => { s with regs.a := hi8 w, regs.flags := unpackF s.cfg.flagNibble (lo8 w) }

/-- `cond(cc)` (R107). -/
def State.cond (s : State) : Cond → Bool
  | .nz => !s.regs.flags.z
  | .z => s.regs.flags.z
  | .nc => !s.regs.flags.c
  | .c => s.regs.flags.c

/-- The address `0xFF00 + n` (R110). -/
def highPage (n : Byte) : Word := 0xFF00 + zext16 n

/-- Set the four flags. -/
def State.setFlags (s : State) (f : Flags) : State := { s with regs.flags := f }

/-- Set `pc`. -/
def State.setPc (s : State) (w : Word) : State := { s with regs.pc := w }

end Sys2Proof.Machine
end

