-- ==== Sys2Proof/Machine/Flags.lean ====
section
/-!
DEFINITION. Every flag computation: 8-bit arithmetic and logic (R198 to R204, R194, R196 of spec/42_alu8.md), 16-bit
arithmetic (R210, R213 of spec/43_alu16.md), rotates, shifts and bit tests (spec/44_rotate_shift_bit.md). Results are
computed exactly on natural numbers and then narrowed.
-/

namespace Sys2Proof.Machine

/-- `Add8(a, v, c)` (R202): the result and the flags. -/
def add8 (a v : Byte) (c : Bool) : Byte × Flags :=
  let r := a.toNat + v.toNat + c.toNat
  (BitVec.ofNat 8 r,
   { z := decide (r % 256 = 0), n := false,
     h := decide (a.toNat % 16 + v.toNat % 16 + c.toNat > 0x0F), c := decide (r > 0xFF) })

/-- `Sub8(a, v, c)` (R203): the result and the flags. -/
def sub8 (a v : Byte) (c : Bool) : Byte × Flags :=
  let r : Int := (a.toNat : Int) - v.toNat - c.toNat
  (BitVec.ofInt 8 r,
   { z := decide (r % 256 = 0), n := true,
     h := decide (a.toNat % 16 < v.toNat % 16 + c.toNat), c := decide (a.toNat < v.toNat + c.toNat) })

/-- `Logic(r, h)` (R204): the result and the flags. -/
def logic8 (r : Byte) (h : Bool) : Byte × Flags :=
  (r, { z := decide (r = 0), n := false, h := h, c := false })

/-- What an arithmetic-logic operation stores in `A` and in the flags (R170 to R193). `CP` stores `A` itself. -/
def alu8 (op : AluOp) (a v : Byte) (carry : Bool) : Byte × Flags :=
  match op with
  | .add => add8 a v false
  | .adc => add8 a v carry
  | .sub => sub8 a v false
  | .sbc => sub8 a v carry
  | .and => logic8 (a &&& v) true
  | .xor => logic8 (a ^^^ v) false
  | .or => logic8 (a ||| v) false
  | .cp => (a, (sub8 a v false).2)

/-- The flags of `INC` of the byte `v` (R194); `Cf` is kept. -/
def inc8Flags (v : Byte) (f : Flags) : Flags :=
  { f with z := decide (v + 1 = 0), n := false, h := decide (v.toNat % 16 = 0x0F) }

/-- The flags of `DEC` of the byte `v` (R196); `Cf` is kept. -/
def dec8Flags (v : Byte) (f : Flags) : Flags :=
  { f with z := decide (v - 1 = 0), n := true, h := decide (v.toNat % 16 = 0x00) }

/-- `DAA` (R198): the adjusted accumulator and the flags. -/
def daa8 (a : Byte) (f : Flags) : Byte × Flags :=
  let low : Byte := if f.h || (!f.n && decide (a.toNat % 16 > 0x09)) then 0x06 else 0
  let highAdjust := f.c || (!f.n && decide (a.toNat > 0x99))
  let adj : Byte := low ||| (if highAdjust then 0x60 else 0)
  let r := if f.n then a - adj else a + adj
  (r, { z := decide (r = 0), n := f.n, h := false, c := if f.n then f.c else highAdjust })

/-- `ADD HL,rr` (R210): the sum and the flags; `Zf` is kept. -/
def add16 (x v : Word) (f : Flags) : Word × Flags :=
  let r := x.toNat + v.toNat
  (BitVec.ofNat 16 r,
   { f with n := false, h := decide (x.toNat % 0x1000 + v.toNat % 0x1000 > 0x0FFF), c := decide (r > 0xFFFF) })

/-- `SP + e` with the flags of `ADD SP,e` and `LD HL,SP+e`, the carries of the unsigned low-byte addition
(R163, R213). -/
def addDisp (sp : Word) (e : Byte) : Word × Flags :=
  (sp + sext16 e,
   { z := false, n := false, h := decide (sp.toNat % 16 + e.toNat % 16 > 0x0F),
     c := decide (sp.toNat % 256 + e.toNat > 0xFF) })

/-- The result of a rotate-shift operation and the bit shifted out (R224 to R239). -/
def rotate8 (op : RotOp) (v : Byte) (carry : Bool) : Byte × Bool :=
  match op with
  | .rlc => (v <<< 1 ||| bool8 (bitOf v 7), bitOf v 7)
  | .rrc => (v >>> 1 ||| bool8 (bitOf v 0) <<< 7, bitOf v 0)
  | .rl => (v <<< 1 ||| bool8 carry, bitOf v 7)
  | .rr => (v >>> 1 ||| bool8 carry <<< 7, bitOf v 0)
  | .sla => (v <<< 1, bitOf v 7)
  | .sra => (v >>> 1 ||| v &&& 0x80, bitOf v 0)
  | .swap => (v <<< 4 ||| v >>> 4, false)
  | .srl => (v >>> 1, bitOf v 0)

/-- The flags of the prefixed rotate-shift operations: `Zf` from the result (R224 to R239). -/
def rotFlags (r : Byte × Bool) : Flags := { z := decide (r.1 = 0), n := false, h := false, c := r.2 }

/-- The flags of the four accumulator rotates: `Zf` forced to 0 (R220 to R223). -/
def rotAccFlags (r : Byte × Bool) : Flags := { z := false, n := false, h := false, c := r.2 }

/-- The flags of `BIT b` on the byte `v`; `Cf` is kept (R240). -/
def bitFlags (b : Nat) (v : Byte) (f : Flags) : Flags := { f with z := !bitOf v b, n := false, h := true }

/-- The byte with bit `b` cleared (R242). -/
def resBit (b : Nat) (v : Byte) : Byte := v &&& ~~~(bitMask b)

/-- The byte with bit `b` set (R244). -/
def setBit (b : Nat) (v : Byte) : Byte := v ||| bitMask b

end Sys2Proof.Machine
end

