-- ==== Sys2Proof/Machine/Bus.lean ====
section
/-!
DEFINITION. The MemoryBus: the address map, the memory-mapped registers and the memory primitives
(spec/20_memory.md).
-/

namespace Sys2Proof.Machine

/-- The rows of the address map (R66). -/
inductive Region where
  | rom | vram | xram | wram | echo | oam | unusable | io | hram | enable
  deriving DecidableEq, Repr

/-- The row of R66 that holds an address; the map is total (R60). -/
def regionOf (addr : Word) : Region :=
  let a := addr.toNat
  if a < 0x8000 then .rom
  else if a < 0xA000 then .vram
  else if a < 0xC000 then .xram
  else if a < 0xE000 then .wram
  else if a < 0xFE00 then .echo
  else if a < 0xFEA0 then .oam
  else if a < 0xFF00 then .unusable
  else if a < 0xFF80 then .io
  else if a < 0xFFFF then .hram
  else .enable

/-- The memory-mapped registers (R76). -/
inductive IoReg where
  | joyp | iflag | lcdc | stat | scy | scx | ly | lyc | dma | bgp | obp0 | obp1 | wy | wx | boot | ie
  deriving DecidableEq, Repr

/-- The register at an address, if R76 assigns one. -/
def ioRegAt (addr : Word) : Option IoReg :=
  match addr.toNat with
  | 0xFF00 => some .joyp
  | 0xFF0F => some .iflag
  | 0xFF40 => some .lcdc
  | 0xFF41 => some .stat
  | 0xFF42 => some .scy
  | 0xFF43 => some .scx
  | 0xFF44 => some .ly
  | 0xFF45 => some .lyc
  | 0xFF46 => some .dma
  | 0xFF47 => some .bgp
  | 0xFF48 => some .obp0
  | 0xFF49 => some .obp1
  | 0xFF4A => some .wy
  | 0xFF4B => some .wx
  | 0xFF50 => some .boot
  | 0xFFFF => some .ie
  | _ => none

/-- What stands behind an address. -/
inductive Target where
  /-- A stored byte: a normal region, or an unassigned address of the I/O window (R67, R77). -/
  | cell
  /-- A sentinel window (R69). -/
  | sentinel
  /-- A memory-mapped register (R75). -/
  | reg (r : IoReg)
  deriving DecidableEq, Repr

/-- What stands behind an address (R66, R75 to R77). -/
def targetOf (addr : Word) : Target :=
  match regionOf addr with
  | .echo | .unusable => .sentinel
  | .io | .enable =>
    match ioRegAt addr with
    | some r => .reg r
    | none => .cell
  | .rom | .vram | .xram | .wram | .oam | .hram => .cell

/-- The input signals of the direction group, `right + 2 × left + 4 × up + 8 × down` (R82). -/
def HostInput.directions (i : HostInput) : Byte :=
  bool8 i.right ||| bool8 i.left <<< 1 ||| bool8 i.up <<< 2 ||| bool8 i.down <<< 3

/-- The input signals of the button group, `a + 2 × b + 4 × select + 8 × start` (R82). -/
def HostInput.buttons (i : HostInput) : Byte :=
  bool8 i.a ||| bool8 i.b <<< 1 ||| bool8 i.select <<< 2 ||| bool8 i.start <<< 3

/-- Any of the eight input signals is pressed (R343). -/
def HostInput.anyPressed (i : HostInput) : Bool :=
  i.right || i.left || i.up || i.down || i.a || i.b || i.select || i.start

/-- What a read of `JOYP` returns (R82). -/
def State.joyp (s : State) : Byte :=
  let d : Byte := if s.io.joySelDir then 0 else s.input.directions
  let k : Byte := if s.io.joySelBtn then 0 else s.input.buttons
  0xC0 ||| bool8 s.io.joySelBtn <<< 5 ||| bool8 s.io.joySelDir <<< 4 ||| (0x0F &&& ~~~(d ||| k))

/-- The mode field of `STAT` (R292). -/
def PpuMode.code : PpuMode → Byte
  | .hBlank => 0
  | .vBlank => 1
  | .oamScan => 2
  | .pixelTransfer => 3

/-- What a read of `STAT` returns (R292). -/
def State.stat (s : State) : Byte :=
  (s.io.statSel &&& 0x78) ||| (if s.ppu.ly = s.io.lyc.toNat then 4 else 0) ||| s.ppu.mode.code

/-- What a read of a register returns (R76). -/
def State.readReg (s : State) : IoReg → Byte
  | .joyp => s.joyp
  | .iflag => s.iflag
  | .lcdc => s.io.lcdc
  | .stat => s.stat
  | .scy => s.io.scy
  | .scx => s.io.scx
  | .ly => BitVec.ofNat 8 s.ppu.ly
  | .lyc => s.io.lyc
  | .dma => s.io.dma
  | .bgp => s.io.bgp
  | .obp0 => s.io.obp0
  | .obp1 => s.io.obp1
  | .wy => s.io.wy
  | .wx => s.io.wx
  | .boot => s.io.boot
  | .ie => s.ie

/-- `Read8(addr)` (R62). It changes nothing (R78). -/
def State.read8 (s : State) (addr : Word) : Byte :=
  match targetOf addr with
  | .cell => Memory.get s.mem addr.toNat
  | .sentinel => 0xFF
  | .reg r => s.readReg r

/-- The OAM copy of a write of `v` to 0xFF46: 160 bytes read through the bus into OAM (R83). -/
def State.oamCopy (s : State) (v : Byte) : State :=
  let source := (List.range 160).map fun i => s.read8 (pair v 0 + BitVec.ofNat 16 i)
  { s with mem := Memory.copy s.mem 0xFE00 source }

/-- The removal of the boot overlay: the cartridge's first 256 bytes come back, once (R81). -/
def State.removeOverlay (s : State) : State :=
  if s.bootActive then
    { s with mem := Memory.copy s.mem 0x0000 (Memory.slice s.cfg.cartImage 0 256), bootActive := false }
  else s

/-- What a write to a register does (R76). -/
def State.writeReg (s : State) (r : IoReg) (v : Byte) : State :=
  match r with
  | .joyp => { s with io.joySelBtn := bitOf v 5, io.joySelDir := bitOf v 4 }
  | .iflag => s
  | .lcdc => { s with io.lcdc := v }
  | .stat => { s with io.statSel := v &&& 0x78 }
  | .scy => { s with io.scy := v }
  | .scx => { s with io.scx := v }
  | .ly => s
  | .lyc => { s with io.lyc := v }
  | .dma => ({ s with io.dma := v } : State).oamCopy v
  | .bgp => { s with io.bgp := v }
  | .obp0 => { s with io.obp0 := v }
  | .obp1 => { s with io.obp1 := v }
  | .wy => { s with io.wy := v }
  | .wx => { s with io.wx := v }
  | .boot => ({ s with io.boot := v } : State).removeOverlay
  | .ie => { s with ie := v }

/-- `Write8(addr, v)` (R63). -/
def State.write8 (s : State) (addr : Word) (v : Byte) : State :=
  match targetOf addr with
  | .cell => { s with mem := Memory.set s.mem addr.toNat v }
  | .sentinel => s
  | .reg r => s.writeReg r v

/-- `MemRead(addr, 2)`: the low byte at `addr`, the high byte at `addr + 1` modulo 65536 (R64). -/
def State.read16 (s : State) (addr : Word) : Word := pair (s.read8 (addr + 1)) (s.read8 addr)

/-- `MemWrite(addr, 2, v)`: the low byte first, then the high byte at `addr + 1` modulo 65536 (R65). -/
def State.write16 (s : State) (addr v : Word) : State := (s.write8 addr (lo8 v)).write8 (addr + 1) (hi8 v)

end Sys2Proof.Machine
end

