-- ==== Sys2Proof/Machine/Ops.lean ====
section
/-!
DEFINITION. The shared operations of the meanings: ending an instruction with its cost, the stack, interrupt service
and the return from it, and the fatal condition (R16, R17 of spec/00_scope.md; spec/60_exceptions.md).
-/

namespace Sys2Proof.Machine

/-- `cycles <- k`, and the instruction is done (R17). -/
def finish (k : Nat) (s : State) : Result := .next { s with cycles := k }

/-- `Push16(v)` (R16). -/
def State.push16 (s : State) (v : Word) : State :=
  let sp := s.regs.sp - 2
  ({ s with regs.sp := sp } : State).write16 sp v

/-- The word `Pop16()` returns (R16). -/
def State.top16 (s : State) : Word := s.read16 s.regs.sp

/-- What `Pop16()` does to `SP` (R16). -/
def State.dropTop (s : State) : State := { s with regs.sp := s.regs.sp + 2 }

/-- `pending = IE & IF & 0x1F` (R363). -/
def State.pending (s : State) : Byte := s.ie &&& s.iflag &&& 0x1F

/-- The smallest source number set in a non-zero pending set: V-Blank first, Joypad last (R364, R367). -/
def firstSource (pending : Byte) : Nat :=
  if bitOf pending 0 then 0
  else if bitOf pending 1 then 1
  else if bitOf pending 2 then 2
  else if bitOf pending 3 then 3
  else 4

/-- The fixed vector of a source (R365). -/
def vectorOf (source : Nat) : Word := 0x0040 + 8 * BitVec.ofNat 16 source

/-- Taking an interrupt, `ServiceInterrupt` (R364): the request bit is cleared, `IME` cleared, `pc` pushed, and control
goes to the vector. -/
def serviceInterrupt (pending : Byte) (s : State) : State :=
  let k := firstSource pending
  let s1 := { s with iflag := s.iflag &&& ~~~(bitMask k), ime := false }
  (s1.push16 s1.regs.pc).setPc (vectorOf k)

/-- The return from an interrupt (R270, R371): `pc` comes back from the stack and `IME` is set. -/
def returnFromInterrupt (s : State) : State :=
  { (s.dropTop.setPc s.top16) with ime := true }

/-- `raise Fatal(UnknownOpcode, a, op)`: the record is written and nothing else changes (R17, R37, R380). A record once
written is never overwritten (R37). -/
def raiseFatal (kind : FatalKind) (address : Word) (opcode : Byte) (s : State) : State :=
  match s.fatal with
  | none => { s with fatal := some { kind := kind, address := address, opcode := opcode } }
  | some _ => s

end Sys2Proof.Machine
end

