-- ==== Sys2Proof/Machine/Alu16.lean ====
section
/-!
DEFINITION. 16-bit arithmetic (spec/43_alu16.md): the shared operations, then one meaning per instruction.
-/

namespace Sys2Proof.Machine

/-- `ADD HL,rr` (R210). -/
def addHl (p : Reg16) (s : State) : Result :=
  let r := add16 s.hl (s.rr p) s.regs.flags
  finish 8 ((s.setHl r.1).setFlags r.2)

/-- `INC rr` (R211). -/
def incPair (p : Reg16) (s : State) : Result := finish 8 (s.setRr p (s.rr p + 1))

/-- `DEC rr` (R212). -/
def decPair (p : Reg16) (s : State) : Result := finish 8 (s.setRr p (s.rr p - 1))

/-- `ADD SP,e` (R213). -/
def addSp (e : Byte) (s : State) : Result :=
  let r := addDisp s.regs.sp e
  finish 16 ((s.setFlags r.2).setRr .sp r.1)

/-- `ADD SP,e` (R213). -/
def execAddSpDisp (e : Byte) (s : State) : Result := addSp e s

/-- `INC BC` (R211). -/
def execIncBc (s : State) : Result := incPair .bc s

/-- `ADD HL,BC` (R210). -/
def execAddHlBc (s : State) : Result := addHl .bc s

/-- `DEC BC` (R212). -/
def execDecBc (s : State) : Result := decPair .bc s

/-- `INC DE` (R211). -/
def execIncDe (s : State) : Result := incPair .de s

/-- `ADD HL,DE` (R210). -/
def execAddHlDe (s : State) : Result := addHl .de s

/-- `DEC DE` (R212). -/
def execDecDe (s : State) : Result := decPair .de s

/-- `INC HL` (R211). -/
def execIncHl (s : State) : Result := incPair .hl s

/-- `ADD HL,HL` (R210). -/
def execAddHlHl (s : State) : Result := addHl .hl s

/-- `DEC HL` (R212). -/
def execDecHl (s : State) : Result := decPair .hl s

/-- `INC SP` (R211). -/
def execIncSp (s : State) : Result := incPair .sp s

/-- `ADD HL,SP` (R210). -/
def execAddHlSp (s : State) : Result := addHl .sp s

/-- `DEC SP` (R212). -/
def execDecSp (s : State) : Result := decPair .sp s

end Sys2Proof.Machine
end

