-- ==== Sys2Proof/Machine/Alu8.lean ====
section
/-!
DEFINITION. 8-bit arithmetic and logic (spec/42_alu8.md): the shared operations, then one meaning per instruction.
-/

namespace Sys2Proof.Machine

/-- `A` and the flags become the outcome of an arithmetic-logic operation on `A` and `v` (R202 to R204). -/
def State.aluA (s : State) (op : AluOp) (v : Byte) : State :=
  let r := alu8 op s.regs.a v s.regs.flags.c
  (s.setReg .a r.1).setFlags r.2

/-- The operation on `A` and a register (R170, R173, R176, R179, R182, R185, R188, R191). -/
def aluReg (op : AluOp) (r : Reg8) (s : State) : Result := finish 4 (s.aluA op (s.reg r))

/-- The operation on `A` and the byte at `HL` (R171, R174, R177, R180, R183, R186, R189, R192). -/
def aluMem (op : AluOp) (s : State) : Result := finish 8 (s.aluA op (s.read8 s.hl))

/-- The operation on `A` and an immediate (R172, R175, R178, R181, R184, R187, R190, R193). -/
def aluImm (op : AluOp) (n : Byte) (s : State) : Result := finish 8 (s.aluA op n)

/-- `INC r` (R194). -/
def incReg (r : Reg8) (s : State) : Result :=
  let v := s.reg r
  finish 4 ((s.setReg r (v + 1)).setFlags (inc8Flags v s.regs.flags))

/-- `DEC r` (R196). -/
def decReg (r : Reg8) (s : State) : Result :=
  let v := s.reg r
  finish 4 ((s.setReg r (v - 1)).setFlags (dec8Flags v s.regs.flags))

/-- `INC (HL)` (R195). -/
def incMem (s : State) : Result :=
  let v := s.read8 s.hl
  finish 12 ((s.write8 s.hl (v + 1)).setFlags (inc8Flags v s.regs.flags))

/-- `DEC (HL)` (R197). -/
def decMem (s : State) : Result :=
  let v := s.read8 s.hl
  finish 12 ((s.write8 s.hl (v - 1)).setFlags (dec8Flags v s.regs.flags))

/-- `DAA` (R198). -/
def adjustA (s : State) : Result :=
  let r := daa8 s.regs.a s.regs.flags
  finish 4 ((s.setReg .a r.1).setFlags r.2)

/-- `CPL` (R199). -/
def complementA (s : State) : Result :=
  finish 4 ((s.setReg .a (~~~s.regs.a)).setFlags { s.regs.flags with n := true, h := true })

/-- `SCF` (R200). -/
def setCarry (s : State) : Result :=
  finish 4 (s.setFlags { s.regs.flags with n := false, h := false, c := true })

/-- `CCF` (R201). -/
def flipCarry (s : State) : Result :=
  finish 4 (s.setFlags { s.regs.flags with n := false, h := false, c := !s.regs.flags.c })

/-- `ADD A,n` (R172). -/
def execAddAN (n : Byte) (s : State) : Result := aluImm .add n s

/-- `ADC A,n` (R175). -/
def execAdcAN (n : Byte) (s : State) : Result := aluImm .adc n s

/-- `SUB n` (R178). -/
def execSubN (n : Byte) (s : State) : Result := aluImm .sub n s

/-- `SBC A,n` (R181). -/
def execSbcAN (n : Byte) (s : State) : Result := aluImm .sbc n s

/-- `AND n` (R184). -/
def execAndN (n : Byte) (s : State) : Result := aluImm .and n s

/-- `XOR n` (R187). -/
def execXorN (n : Byte) (s : State) : Result := aluImm .xor n s

/-- `OR n` (R190). -/
def execOrN (n : Byte) (s : State) : Result := aluImm .or n s

/-- `CP n` (R193). -/
def execCpN (n : Byte) (s : State) : Result := aluImm .cp n s

/-- `INC B` (R194). -/
def execIncB (s : State) : Result := incReg .b s

/-- `DEC B` (R196). -/
def execDecB (s : State) : Result := decReg .b s

/-- `INC C` (R194). -/
def execIncC (s : State) : Result := incReg .c s

/-- `DEC C` (R196). -/
def execDecC (s : State) : Result := decReg .c s

/-- `INC D` (R194). -/
def execIncD (s : State) : Result := incReg .d s

/-- `DEC D` (R196). -/
def execDecD (s : State) : Result := decReg .d s

/-- `INC E` (R194). -/
def execIncE (s : State) : Result := incReg .e s

/-- `DEC E` (R196). -/
def execDecE (s : State) : Result := decReg .e s

/-- `INC H` (R194). -/
def execIncH (s : State) : Result := incReg .h s

/-- `DEC H` (R196). -/
def execDecH (s : State) : Result := decReg .h s

/-- `DAA` (R198). -/
def execDaa (s : State) : Result := adjustA s

/-- `INC L` (R194). -/
def execIncL (s : State) : Result := incReg .l s

/-- `DEC L` (R196). -/
def execDecL (s : State) : Result := decReg .l s

/-- `CPL` (R199). -/
def execCpl (s : State) : Result := complementA s

/-- `INC (HL)` (R195). -/
def execIncAtHl (s : State) : Result := incMem s

/-- `DEC (HL)` (R197). -/
def execDecAtHl (s : State) : Result := decMem s

/-- `SCF` (R200). -/
def execScf (s : State) : Result := setCarry s

/-- `INC A` (R194). -/
def execIncA (s : State) : Result := incReg .a s

/-- `DEC A` (R196). -/
def execDecA (s : State) : Result := decReg .a s

/-- `CCF` (R201). -/
def execCcf (s : State) : Result := flipCarry s

/-- `ADD A,B` (R170). -/
def execAddAB (s : State) : Result := aluReg .add .b s

/-- `ADD A,C` (R170). -/
def execAddAC (s : State) : Result := aluReg .add .c s

/-- `ADD A,D` (R170). -/
def execAddAD (s : State) : Result := aluReg .add .d s

/-- `ADD A,E` (R170). -/
def execAddAE (s : State) : Result := aluReg .add .e s

/-- `ADD A,H` (R170). -/
def execAddAH (s : State) : Result := aluReg .add .h s

/-- `ADD A,L` (R170). -/
def execAddAL (s : State) : Result := aluReg .add .l s

/-- `ADD A,(HL)` (R171). -/
def execAddAAtHl (s : State) : Result := aluMem .add s

/-- `ADD A,A` (R170). -/
def execAddAA (s : State) : Result := aluReg .add .a s

/-- `ADC A,B` (R173). -/
def execAdcAB (s : State) : Result := aluReg .adc .b s

/-- `ADC A,C` (R173). -/
def execAdcAC (s : State) : Result := aluReg .adc .c s

/-- `ADC A,D` (R173). -/
def execAdcAD (s : State) : Result := aluReg .adc .d s

/-- `ADC A,E` (R173). -/
def execAdcAE (s : State) : Result := aluReg .adc .e s

/-- `ADC A,H` (R173). -/
def execAdcAH (s : State) : Result := aluReg .adc .h s

/-- `ADC A,L` (R173). -/
def execAdcAL (s : State) : Result := aluReg .adc .l s

/-- `ADC A,(HL)` (R174). -/
def execAdcAAtHl (s : State) : Result := aluMem .adc s

/-- `ADC A,A` (R173). -/
def execAdcAA (s : State) : Result := aluReg .adc .a s

/-- `SUB B` (R176). -/
def execSubB (s : State) : Result := aluReg .sub .b s

/-- `SUB C` (R176). -/
def execSubC (s : State) : Result := aluReg .sub .c s

/-- `SUB D` (R176). -/
def execSubD (s : State) : Result := aluReg .sub .d s

/-- `SUB E` (R176). -/
def execSubE (s : State) : Result := aluReg .sub .e s

/-- `SUB H` (R176). -/
def execSubH (s : State) : Result := aluReg .sub .h s

/-- `SUB L` (R176). -/
def execSubL (s : State) : Result := aluReg .sub .l s

/-- `SUB (HL)` (R177). -/
def execSubAtHl (s : State) : Result := aluMem .sub s

/-- `SUB A` (R176). -/
def execSubA (s : State) : Result := aluReg .sub .a s

/-- `SBC A,B` (R179). -/
def execSbcAB (s : State) : Result := aluReg .sbc .b s

/-- `SBC A,C` (R179). -/
def execSbcAC (s : State) : Result := aluReg .sbc .c s

/-- `SBC A,D` (R179). -/
def execSbcAD (s : State) : Result := aluReg .sbc .d s

/-- `SBC A,E` (R179). -/
def execSbcAE (s : State) : Result := aluReg .sbc .e s

/-- `SBC A,H` (R179). -/
def execSbcAH (s : State) : Result := aluReg .sbc .h s

/-- `SBC A,L` (R179). -/
def execSbcAL (s : State) : Result := aluReg .sbc .l s

/-- `SBC A,(HL)` (R180). -/
def execSbcAAtHl (s : State) : Result := aluMem .sbc s

/-- `SBC A,A` (R179). -/
def execSbcAA (s : State) : Result := aluReg .sbc .a s

/-- `AND B` (R182). -/
def execAndB (s : State) : Result := aluReg .and .b s

/-- `AND C` (R182). -/
def execAndC (s : State) : Result := aluReg .and .c s

/-- `AND D` (R182). -/
def execAndD (s : State) : Result := aluReg .and .d s

/-- `AND E` (R182). -/
def execAndE (s : State) : Result := aluReg .and .e s

/-- `AND H` (R182). -/
def execAndH (s : State) : Result := aluReg .and .h s

/-- `AND L` (R182). -/
def execAndL (s : State) : Result := aluReg .and .l s

/-- `AND (HL)` (R183). -/
def execAndAtHl (s : State) : Result := aluMem .and s

/-- `AND A` (R182). -/
def execAndA (s : State) : Result := aluReg .and .a s

/-- `XOR B` (R185). -/
def execXorB (s : State) : Result := aluReg .xor .b s

/-- `XOR C` (R185). -/
def execXorC (s : State) : Result := aluReg .xor .c s

/-- `XOR D` (R185). -/
def execXorD (s : State) : Result := aluReg .xor .d s

/-- `XOR E` (R185). -/
def execXorE (s : State) : Result := aluReg .xor .e s

/-- `XOR H` (R185). -/
def execXorH (s : State) : Result := aluReg .xor .h s

/-- `XOR L` (R185). -/
def execXorL (s : State) : Result := aluReg .xor .l s

/-- `XOR (HL)` (R186). -/
def execXorAtHl (s : State) : Result := aluMem .xor s

/-- `XOR A` (R185). -/
def execXorA (s : State) : Result := aluReg .xor .a s

/-- `OR B` (R188). -/
def execOrB (s : State) : Result := aluReg .or .b s

/-- `OR C` (R188). -/
def execOrC (s : State) : Result := aluReg .or .c s

/-- `OR D` (R188). -/
def execOrD (s : State) : Result := aluReg .or .d s

/-- `OR E` (R188). -/
def execOrE (s : State) : Result := aluReg .or .e s

/-- `OR H` (R188). -/
def execOrH (s : State) : Result := aluReg .or .h s

/-- `OR L` (R188). -/
def execOrL (s : State) : Result := aluReg .or .l s

/-- `OR (HL)` (R189). -/
def execOrAtHl (s : State) : Result := aluMem .or s

/-- `OR A` (R188). -/
def execOrA (s : State) : Result := aluReg .or .a s

/-- `CP B` (R191). -/
def execCpB (s : State) : Result := aluReg .cp .b s

/-- `CP C` (R191). -/
def execCpC (s : State) : Result := aluReg .cp .c s

/-- `CP D` (R191). -/
def execCpD (s : State) : Result := aluReg .cp .d s

/-- `CP E` (R191). -/
def execCpE (s : State) : Result := aluReg .cp .e s

/-- `CP H` (R191). -/
def execCpH (s : State) : Result := aluReg .cp .h s

/-- `CP L` (R191). -/
def execCpL (s : State) : Result := aluReg .cp .l s

/-- `CP (HL)` (R192). -/
def execCpAtHl (s : State) : Result := aluMem .cp s

/-- `CP A` (R191). -/
def execCpA (s : State) : Result := aluReg .cp .a s

end Sys2Proof.Machine
end

