-- ==== Sys2Proof/Machine/Bit.lean ====
section
/-!
DEFINITION. The bit instructions (spec/44_rotate_shift_bit.md, R240 to R245): the shared operations, then one meaning
per instruction.
-/

namespace Sys2Proof.Machine

/-- `BIT b,r` (R240). -/
def bitReg (b : Nat) (r : Reg8) (s : State) : Result :=
  finish 8 (s.setFlags (bitFlags b (s.reg r) s.regs.flags))

/-- `BIT b,(HL)` (R241). -/
def bitMem (b : Nat) (s : State) : Result :=
  finish 12 (s.setFlags (bitFlags b (s.read8 s.hl) s.regs.flags))

/-- `RES b,r` (R242). -/
def resReg (b : Nat) (r : Reg8) (s : State) : Result := finish 8 (s.setReg r (resBit b (s.reg r)))

/-- `RES b,(HL)` (R243). -/
def resMem (b : Nat) (s : State) : Result := finish 16 (s.write8 s.hl (resBit b (s.read8 s.hl)))

/-- `SET b,r` (R244). -/
def setReg (b : Nat) (r : Reg8) (s : State) : Result := finish 8 (s.setReg r (setBit b (s.reg r)))

/-- `SET b,(HL)` (R245). -/
def setMem (b : Nat) (s : State) : Result := finish 16 (s.write8 s.hl (setBit b (s.read8 s.hl)))

/-- `BIT 0,B` (R240). -/
def execBit0B (s : State) : Result := bitReg 0 .b s

/-- `BIT 0,C` (R240). -/
def execBit0C (s : State) : Result := bitReg 0 .c s

/-- `BIT 0,D` (R240). -/
def execBit0D (s : State) : Result := bitReg 0 .d s

/-- `BIT 0,E` (R240). -/
def execBit0E (s : State) : Result := bitReg 0 .e s

/-- `BIT 0,H` (R240). -/
def execBit0H (s : State) : Result := bitReg 0 .h s

/-- `BIT 0,L` (R240). -/
def execBit0L (s : State) : Result := bitReg 0 .l s

/-- `BIT 0,(HL)` (R241). -/
def execBit0AtHl (s : State) : Result := bitMem 0 s

/-- `BIT 0,A` (R240). -/
def execBit0A (s : State) : Result := bitReg 0 .a s

/-- `BIT 1,B` (R240). -/
def execBit1B (s : State) : Result := bitReg 1 .b s

/-- `BIT 1,C` (R240). -/
def execBit1C (s : State) : Result := bitReg 1 .c s

/-- `BIT 1,D` (R240). -/
def execBit1D (s : State) : Result := bitReg 1 .d s

/-- `BIT 1,E` (R240). -/
def execBit1E (s : State) : Result := bitReg 1 .e s

/-- `BIT 1,H` (R240). -/
def execBit1H (s : State) : Result := bitReg 1 .h s

/-- `BIT 1,L` (R240). -/
def execBit1L (s : State) : Result := bitReg 1 .l s

/-- `BIT 1,(HL)` (R241). -/
def execBit1AtHl (s : State) : Result := bitMem 1 s

/-- `BIT 1,A` (R240). -/
def execBit1A (s : State) : Result := bitReg 1 .a s

/-- `BIT 2,B` (R240). -/
def execBit2B (s : State) : Result := bitReg 2 .b s

/-- `BIT 2,C` (R240). -/
def execBit2C (s : State) : Result := bitReg 2 .c s

/-- `BIT 2,D` (R240). -/
def execBit2D (s : State) : Result := bitReg 2 .d s

/-- `BIT 2,E` (R240). -/
def execBit2E (s : State) : Result := bitReg 2 .e s

/-- `BIT 2,H` (R240). -/
def execBit2H (s : State) : Result := bitReg 2 .h s

/-- `BIT 2,L` (R240). -/
def execBit2L (s : State) : Result := bitReg 2 .l s

/-- `BIT 2,(HL)` (R241). -/
def execBit2AtHl (s : State) : Result := bitMem 2 s

/-- `BIT 2,A` (R240). -/
def execBit2A (s : State) : Result := bitReg 2 .a s

/-- `BIT 3,B` (R240). -/
def execBit3B (s : State) : Result := bitReg 3 .b s

/-- `BIT 3,C` (R240). -/
def execBit3C (s : State) : Result := bitReg 3 .c s

/-- `BIT 3,D` (R240). -/
def execBit3D (s : State) : Result := bitReg 3 .d s

/-- `BIT 3,E` (R240). -/
def execBit3E (s : State) : Result := bitReg 3 .e s

/-- `BIT 3,H` (R240). -/
def execBit3H (s : State) : Result := bitReg 3 .h s

/-- `BIT 3,L` (R240). -/
def execBit3L (s : State) : Result := bitReg 3 .l s

/-- `BIT 3,(HL)` (R241). -/
def execBit3AtHl (s : State) : Result := bitMem 3 s

/-- `BIT 3,A` (R240). -/
def execBit3A (s : State) : Result := bitReg 3 .a s

/-- `BIT 4,B` (R240). -/
def execBit4B (s : State) : Result := bitReg 4 .b s

/-- `BIT 4,C` (R240). -/
def execBit4C (s : State) : Result := bitReg 4 .c s

/-- `BIT 4,D` (R240). -/
def execBit4D (s : State) : Result := bitReg 4 .d s

/-- `BIT 4,E` (R240). -/
def execBit4E (s : State) : Result := bitReg 4 .e s

/-- `BIT 4,H` (R240). -/
def execBit4H (s : State) : Result := bitReg 4 .h s

/-- `BIT 4,L` (R240). -/
def execBit4L (s : State) : Result := bitReg 4 .l s

/-- `BIT 4,(HL)` (R241). -/
def execBit4AtHl (s : State) : Result := bitMem 4 s

/-- `BIT 4,A` (R240). -/
def execBit4A (s : State) : Result := bitReg 4 .a s

/-- `BIT 5,B` (R240). -/
def execBit5B (s : State) : Result := bitReg 5 .b s

/-- `BIT 5,C` (R240). -/
def execBit5C (s : State) : Result := bitReg 5 .c s

/-- `BIT 5,D` (R240). -/
def execBit5D (s : State) : Result := bitReg 5 .d s

/-- `BIT 5,E` (R240). -/
def execBit5E (s : State) : Result := bitReg 5 .e s

/-- `BIT 5,H` (R240). -/
def execBit5H (s : State) : Result := bitReg 5 .h s

/-- `BIT 5,L` (R240). -/
def execBit5L (s : State) : Result := bitReg 5 .l s

/-- `BIT 5,(HL)` (R241). -/
def execBit5AtHl (s : State) : Result := bitMem 5 s

/-- `BIT 5,A` (R240). -/
def execBit5A (s : State) : Result := bitReg 5 .a s

/-- `BIT 6,B` (R240). -/
def execBit6B (s : State) : Result := bitReg 6 .b s

/-- `BIT 6,C` (R240). -/
def execBit6C (s : State) : Result := bitReg 6 .c s

/-- `BIT 6,D` (R240). -/
def execBit6D (s : State) : Result := bitReg 6 .d s

/-- `BIT 6,E` (R240). -/
def execBit6E (s : State) : Result := bitReg 6 .e s

/-- `BIT 6,H` (R240). -/
def execBit6H (s : State) : Result := bitReg 6 .h s

/-- `BIT 6,L` (R240). -/
def execBit6L (s : State) : Result := bitReg 6 .l s

/-- `BIT 6,(HL)` (R241). -/
def execBit6AtHl (s : State) : Result := bitMem 6 s

/-- `BIT 6,A` (R240). -/
def execBit6A (s : State) : Result := bitReg 6 .a s

/-- `BIT 7,B` (R240). -/
def execBit7B (s : State) : Result := bitReg 7 .b s

/-- `BIT 7,C` (R240). -/
def execBit7C (s : State) : Result := bitReg 7 .c s

/-- `BIT 7,D` (R240). -/
def execBit7D (s : State) : Result := bitReg 7 .d s

/-- `BIT 7,E` (R240). -/
def execBit7E (s : State) : Result := bitReg 7 .e s

/-- `BIT 7,H` (R240). -/
def execBit7H (s : State) : Result := bitReg 7 .h s

/-- `BIT 7,L` (R240). -/
def execBit7L (s : State) : Result := bitReg 7 .l s

/-- `BIT 7,(HL)` (R241). -/
def execBit7AtHl (s : State) : Result := bitMem 7 s

/-- `BIT 7,A` (R240). -/
def execBit7A (s : State) : Result := bitReg 7 .a s

/-- `RES 0,B` (R242). -/
def execRes0B (s : State) : Result := resReg 0 .b s

/-- `RES 0,C` (R242). -/
def execRes0C (s : State) : Result := resReg 0 .c s

/-- `RES 0,D` (R242). -/
def execRes0D (s : State) : Result := resReg 0 .d s

/-- `RES 0,E` (R242). -/
def execRes0E (s : State) : Result := resReg 0 .e s

/-- `RES 0,H` (R242). -/
def execRes0H (s : State) : Result := resReg 0 .h s

/-- `RES 0,L` (R242). -/
def execRes0L (s : State) : Result := resReg 0 .l s

/-- `RES 0,(HL)` (R243). -/
def execRes0AtHl (s : State) : Result := resMem 0 s

/-- `RES 0,A` (R242). -/
def execRes0A (s : State) : Result := resReg 0 .a s

/-- `RES 1,B` (R242). -/
def execRes1B (s : State) : Result := resReg 1 .b s

/-- `RES 1,C` (R242). -/
def execRes1C (s : State) : Result := resReg 1 .c s

/-- `RES 1,D` (R242). -/
def execRes1D (s : State) : Result := resReg 1 .d s

/-- `RES 1,E` (R242). -/
def execRes1E (s : State) : Result := resReg 1 .e s

/-- `RES 1,H` (R242). -/
def execRes1H (s : State) : Result := resReg 1 .h s

/-- `RES 1,L` (R242). -/
def execRes1L (s : State) : Result := resReg 1 .l s

/-- `RES 1,(HL)` (R243). -/
def execRes1AtHl (s : State) : Result := resMem 1 s

/-- `RES 1,A` (R242). -/
def execRes1A (s : State) : Result := resReg 1 .a s

/-- `RES 2,B` (R242). -/
def execRes2B (s : State) : Result := resReg 2 .b s

/-- `RES 2,C` (R242). -/
def execRes2C (s : State) : Result := resReg 2 .c s

/-- `RES 2,D` (R242). -/
def execRes2D (s : State) : Result := resReg 2 .d s

/-- `RES 2,E` (R242). -/
def execRes2E (s : State) : Result := resReg 2 .e s

/-- `RES 2,H` (R242). -/
def execRes2H (s : State) : Result := resReg 2 .h s

/-- `RES 2,L` (R242). -/
def execRes2L (s : State) : Result := resReg 2 .l s

/-- `RES 2,(HL)` (R243). -/
def execRes2AtHl (s : State) : Result := resMem 2 s

/-- `RES 2,A` (R242). -/
def execRes2A (s : State) : Result := resReg 2 .a s

/-- `RES 3,B` (R242). -/
def execRes3B (s : State) : Result := resReg 3 .b s

/-- `RES 3,C` (R242). -/
def execRes3C (s : State) : Result := resReg 3 .c s

/-- `RES 3,D` (R242). -/
def execRes3D (s : State) : Result := resReg 3 .d s

/-- `RES 3,E` (R242). -/
def execRes3E (s : State) : Result := resReg 3 .e s

/-- `RES 3,H` (R242). -/
def execRes3H (s : State) : Result := resReg 3 .h s

/-- `RES 3,L` (R242). -/
def execRes3L (s : State) : Result := resReg 3 .l s

/-- `RES 3,(HL)` (R243). -/
def execRes3AtHl (s : State) : Result := resMem 3 s

/-- `RES 3,A` (R242). -/
def execRes3A (s : State) : Result := resReg 3 .a s

/-- `RES 4,B` (R242). -/
def execRes4B (s : State) : Result := resReg 4 .b s

/-- `RES 4,C` (R242). -/
def execRes4C (s : State) : Result := resReg 4 .c s

/-- `RES 4,D` (R242). -/
def execRes4D (s : State) : Result := resReg 4 .d s

/-- `RES 4,E` (R242). -/
def execRes4E (s : State) : Result := resReg 4 .e s

/-- `RES 4,H` (R242). -/
def execRes4H (s : State) : Result := resReg 4 .h s

/-- `RES 4,L` (R242). -/
def execRes4L (s : State) : Result := resReg 4 .l s

/-- `RES 4,(HL)` (R243). -/
def execRes4AtHl (s : State) : Result := resMem 4 s

/-- `RES 4,A` (R242). -/
def execRes4A (s : State) : Result := resReg 4 .a s

/-- `RES 5,B` (R242). -/
def execRes5B (s : State) : Result := resReg 5 .b s

/-- `RES 5,C` (R242). -/
def execRes5C (s : State) : Result := resReg 5 .c s

/-- `RES 5,D` (R242). -/
def execRes5D (s : State) : Result := resReg 5 .d s

/-- `RES 5,E` (R242). -/
def execRes5E (s : State) : Result := resReg 5 .e s

/-- `RES 5,H` (R242). -/
def execRes5H (s : State) : Result := resReg 5 .h s

/-- `RES 5,L` (R242). -/
def execRes5L (s : State) : Result := resReg 5 .l s

/-- `RES 5,(HL)` (R243). -/
def execRes5AtHl (s : State) : Result := resMem 5 s

/-- `RES 5,A` (R242). -/
def execRes5A (s : State) : Result := resReg 5 .a s

/-- `RES 6,B` (R242). -/
def execRes6B (s : State) : Result := resReg 6 .b s

/-- `RES 6,C` (R242). -/
def execRes6C (s : State) : Result := resReg 6 .c s

/-- `RES 6,D` (R242). -/
def execRes6D (s : State) : Result := resReg 6 .d s

/-- `RES 6,E` (R242). -/
def execRes6E (s : State) : Result := resReg 6 .e s

/-- `RES 6,H` (R242). -/
def execRes6H (s : State) : Result := resReg 6 .h s

/-- `RES 6,L` (R242). -/
def execRes6L (s : State) : Result := resReg 6 .l s

/-- `RES 6,(HL)` (R243). -/
def execRes6AtHl (s : State) : Result := resMem 6 s

/-- `RES 6,A` (R242). -/
def execRes6A (s : State) : Result := resReg 6 .a s

/-- `RES 7,B` (R242). -/
def execRes7B (s : State) : Result := resReg 7 .b s

/-- `RES 7,C` (R242). -/
def execRes7C (s : State) : Result := resReg 7 .c s

/-- `RES 7,D` (R242). -/
def execRes7D (s : State) : Result := resReg 7 .d s

/-- `RES 7,E` (R242). -/
def execRes7E (s : State) : Result := resReg 7 .e s

/-- `RES 7,H` (R242). -/
def execRes7H (s : State) : Result := resReg 7 .h s

/-- `RES 7,L` (R242). -/
def execRes7L (s : State) : Result := resReg 7 .l s

/-- `RES 7,(HL)` (R243). -/
def execRes7AtHl (s : State) : Result := resMem 7 s

/-- `RES 7,A` (R242). -/
def execRes7A (s : State) : Result := resReg 7 .a s

/-- `SET 0,B` (R244). -/
def execSet0B (s : State) : Result := setReg 0 .b s

/-- `SET 0,C` (R244). -/
def execSet0C (s : State) : Result := setReg 0 .c s

/-- `SET 0,D` (R244). -/
def execSet0D (s : State) : Result := setReg 0 .d s

/-- `SET 0,E` (R244). -/
def execSet0E (s : State) : Result := setReg 0 .e s

/-- `SET 0,H` (R244). -/
def execSet0H (s : State) : Result := setReg 0 .h s

/-- `SET 0,L` (R244). -/
def execSet0L (s : State) : Result := setReg 0 .l s

/-- `SET 0,(HL)` (R245). -/
def execSet0AtHl (s : State) : Result := setMem 0 s

/-- `SET 0,A` (R244). -/
def execSet0A (s : State) : Result := setReg 0 .a s

/-- `SET 1,B` (R244). -/
def execSet1B (s : State) : Result := setReg 1 .b s

/-- `SET 1,C` (R244). -/
def execSet1C (s : State) : Result := setReg 1 .c s

/-- `SET 1,D` (R244). -/
def execSet1D (s : State) : Result := setReg 1 .d s

/-- `SET 1,E` (R244). -/
def execSet1E (s : State) : Result := setReg 1 .e s

/-- `SET 1,H` (R244). -/
def execSet1H (s : State) : Result := setReg 1 .h s

/-- `SET 1,L` (R244). -/
def execSet1L (s : State) : Result := setReg 1 .l s

/-- `SET 1,(HL)` (R245). -/
def execSet1AtHl (s : State) : Result := setMem 1 s

/-- `SET 1,A` (R244). -/
def execSet1A (s : State) : Result := setReg 1 .a s

/-- `SET 2,B` (R244). -/
def execSet2B (s : State) : Result := setReg 2 .b s

/-- `SET 2,C` (R244). -/
def execSet2C (s : State) : Result := setReg 2 .c s

/-- `SET 2,D` (R244). -/
def execSet2D (s : State) : Result := setReg 2 .d s

/-- `SET 2,E` (R244). -/
def execSet2E (s : State) : Result := setReg 2 .e s

/-- `SET 2,H` (R244). -/
def execSet2H (s : State) : Result := setReg 2 .h s

/-- `SET 2,L` (R244). -/
def execSet2L (s : State) : Result := setReg 2 .l s

/-- `SET 2,(HL)` (R245). -/
def execSet2AtHl (s : State) : Result := setMem 2 s

/-- `SET 2,A` (R244). -/
def execSet2A (s : State) : Result := setReg 2 .a s

/-- `SET 3,B` (R244). -/
def execSet3B (s : State) : Result := setReg 3 .b s

/-- `SET 3,C` (R244). -/
def execSet3C (s : State) : Result := setReg 3 .c s

/-- `SET 3,D` (R244). -/
def execSet3D (s : State) : Result := setReg 3 .d s

/-- `SET 3,E` (R244). -/
def execSet3E (s : State) : Result := setReg 3 .e s

/-- `SET 3,H` (R244). -/
def execSet3H (s : State) : Result := setReg 3 .h s

/-- `SET 3,L` (R244). -/
def execSet3L (s : State) : Result := setReg 3 .l s

/-- `SET 3,(HL)` (R245). -/
def execSet3AtHl (s : State) : Result := setMem 3 s

/-- `SET 3,A` (R244). -/
def execSet3A (s : State) : Result := setReg 3 .a s

/-- `SET 4,B` (R244). -/
def execSet4B (s : State) : Result := setReg 4 .b s

/-- `SET 4,C` (R244). -/
def execSet4C (s : State) : Result := setReg 4 .c s

/-- `SET 4,D` (R244). -/
def execSet4D (s : State) : Result := setReg 4 .d s

/-- `SET 4,E` (R244). -/
def execSet4E (s : State) : Result := setReg 4 .e s

/-- `SET 4,H` (R244). -/
def execSet4H (s : State) : Result := setReg 4 .h s

/-- `SET 4,L` (R244). -/
def execSet4L (s : State) : Result := setReg 4 .l s

/-- `SET 4,(HL)` (R245). -/
def execSet4AtHl (s : State) : Result := setMem 4 s

/-- `SET 4,A` (R244). -/
def execSet4A (s : State) : Result := setReg 4 .a s

/-- `SET 5,B` (R244). -/
def execSet5B (s : State) : Result := setReg 5 .b s

/-- `SET 5,C` (R244). -/
def execSet5C (s : State) : Result := setReg 5 .c s

/-- `SET 5,D` (R244). -/
def execSet5D (s : State) : Result := setReg 5 .d s

/-- `SET 5,E` (R244). -/
def execSet5E (s : State) : Result := setReg 5 .e s

/-- `SET 5,H` (R244). -/
def execSet5H (s : State) : Result := setReg 5 .h s

/-- `SET 5,L` (R244). -/
def execSet5L (s : State) : Result := setReg 5 .l s

/-- `SET 5,(HL)` (R245). -/
def execSet5AtHl (s : State) : Result := setMem 5 s

/-- `SET 5,A` (R244). -/
def execSet5A (s : State) : Result := setReg 5 .a s

/-- `SET 6,B` (R244). -/
def execSet6B (s : State) : Result := setReg 6 .b s

/-- `SET 6,C` (R244). -/
def execSet6C (s : State) : Result := setReg 6 .c s

/-- `SET 6,D` (R244). -/
def execSet6D (s : State) : Result := setReg 6 .d s

/-- `SET 6,E` (R244). -/
def execSet6E (s : State) : Result := setReg 6 .e s

/-- `SET 6,H` (R244). -/
def execSet6H (s : State) : Result := setReg 6 .h s

/-- `SET 6,L` (R244). -/
def execSet6L (s : State) : Result := setReg 6 .l s

/-- `SET 6,(HL)` (R245). -/
def execSet6AtHl (s : State) : Result := setMem 6 s

/-- `SET 6,A` (R244). -/
def execSet6A (s : State) : Result := setReg 6 .a s

/-- `SET 7,B` (R244). -/
def execSet7B (s : State) : Result := setReg 7 .b s

/-- `SET 7,C` (R244). -/
def execSet7C (s : State) : Result := setReg 7 .c s

/-- `SET 7,D` (R244). -/
def execSet7D (s : State) : Result := setReg 7 .d s

/-- `SET 7,E` (R244). -/
def execSet7E (s : State) : Result := setReg 7 .e s

/-- `SET 7,H` (R244). -/
def execSet7H (s : State) : Result := setReg 7 .h s

/-- `SET 7,L` (R244). -/
def execSet7L (s : State) : Result := setReg 7 .l s

/-- `SET 7,(HL)` (R245). -/
def execSet7AtHl (s : State) : Result := setMem 7 s

/-- `SET 7,A` (R244). -/
def execSet7A (s : State) : Result := setReg 7 .a s

end Sys2Proof.Machine
end

