-- ==== Sys2Proof/Machine/Control.lean ====
section
/-!
DEFINITION. Control transfer (spec/45_control.md): the shared operations, then one meaning per instruction. `pc` is
already the address of the next instruction (R263, R265, R269).
-/

namespace Sys2Proof.Machine

/-- `pc <- target` at cost `k` (R260, R262). -/
def jump (target : Word) (k : Nat) (s : State) : Result := finish k (s.setPc target)

/-- `JP cc,nn` (R261). -/
def jumpIf (cc : Cond) (nn : Word) (s : State) : Result :=
  if s.cond cc then jump nn 16 s else finish 12 s

/-- `JR e` (R263). -/
def jumpRel (e : Byte) (s : State) : Result := jump (s.regs.pc + sext16 e) 12 s

/-- `JR cc,e` (R264). -/
def jumpRelIf (cc : Cond) (e : Byte) (s : State) : Result :=
  if s.cond cc then jumpRel e s else finish 8 s

/-- `Push16(pc)`, then `pc <- target`, at cost `k` (R265, R269). -/
def call (target : Word) (k : Nat) (s : State) : Result := finish k ((s.push16 s.regs.pc).setPc target)

/-- `CALL cc,nn` (R266). -/
def callIf (cc : Cond) (nn : Word) (s : State) : Result :=
  if s.cond cc then call nn 24 s else finish 12 s

/-- `pc <- Pop16()` at cost `k` (R267, R268). -/
def popPc (k : Nat) (s : State) : Result := finish k (s.dropTop.setPc s.top16)

/-- `RET` (R267). -/
def ret (s : State) : Result := popPc 16 s

/-- `RET cc` (R268). -/
def retIf (cc : Cond) (s : State) : Result :=
  if s.cond cc then popPc 20 s else finish 8 s

/-- `RETI` (R270). -/
def retInterrupt (s : State) : Result := finish 16 (returnFromInterrupt s)

/-- `JR e` (R263). -/
def execJrDisp (e : Byte) (s : State) : Result := jumpRel e s

/-- `JR NZ,e` (R264). -/
def execJrNzDisp (e : Byte) (s : State) : Result := jumpRelIf .nz e s

/-- `JR Z,e` (R264). -/
def execJrZDisp (e : Byte) (s : State) : Result := jumpRelIf .z e s

/-- `JR NC,e` (R264). -/
def execJrNcDisp (e : Byte) (s : State) : Result := jumpRelIf .nc e s

/-- `JR C,e` (R264). -/
def execJrCDisp (e : Byte) (s : State) : Result := jumpRelIf .c e s

/-- `JP NZ,nn` (R261). -/
def execJpNzNn (nn : Word) (s : State) : Result := jumpIf .nz nn s

/-- `JP nn` (R260). -/
def execJpNn (nn : Word) (s : State) : Result := jump nn 16 s

/-- `CALL NZ,nn` (R266). -/
def execCallNzNn (nn : Word) (s : State) : Result := callIf .nz nn s

/-- `JP Z,nn` (R261). -/
def execJpZNn (nn : Word) (s : State) : Result := jumpIf .z nn s

/-- `CALL Z,nn` (R266). -/
def execCallZNn (nn : Word) (s : State) : Result := callIf .z nn s

/-- `CALL nn` (R265). -/
def execCallNn (nn : Word) (s : State) : Result := call nn 24 s

/-- `JP NC,nn` (R261). -/
def execJpNcNn (nn : Word) (s : State) : Result := jumpIf .nc nn s

/-- `CALL NC,nn` (R266). -/
def execCallNcNn (nn : Word) (s : State) : Result := callIf .nc nn s

/-- `JP C,nn` (R261). -/
def execJpCNn (nn : Word) (s : State) : Result := jumpIf .c nn s

/-- `CALL C,nn` (R266). -/
def execCallCNn (nn : Word) (s : State) : Result := callIf .c nn s

/-- `RET NZ` (R268). -/
def execRetNz (s : State) : Result := retIf .nz s

/-- `RST 0x00` (R269). -/
def execRst00 (s : State) : Result := call 0x00 16 s

/-- `RET Z` (R268). -/
def execRetZ (s : State) : Result := retIf .z s

/-- `RET` (R267). -/
def execRet (s : State) : Result := ret s

/-- `RST 0x08` (R269). -/
def execRst08 (s : State) : Result := call 0x08 16 s

/-- `RET NC` (R268). -/
def execRetNc (s : State) : Result := retIf .nc s

/-- `RST 0x10` (R269). -/
def execRst10 (s : State) : Result := call 0x10 16 s

/-- `RET C` (R268). -/
def execRetC (s : State) : Result := retIf .c s

/-- `RETI` (R270). -/
def execReti (s : State) : Result := retInterrupt s

/-- `RST 0x18` (R269). -/
def execRst18 (s : State) : Result := call 0x18 16 s

/-- `RST 0x20` (R269). -/
def execRst20 (s : State) : Result := call 0x20 16 s

/-- `JP HL` (R262). -/
def execJpHl (s : State) : Result := jump s.hl 4 s

/-- `RST 0x28` (R269). -/
def execRst28 (s : State) : Result := call 0x28 16 s

/-- `RST 0x30` (R269). -/
def execRst30 (s : State) : Result := call 0x30 16 s

/-- `RST 0x38` (R269). -/
def execRst38 (s : State) : Result := call 0x38 16 s

end Sys2Proof.Machine
end

