-- ==== Sys2Proof/Machine/Load16.lean ====
section
/-!
DEFINITION. The 16-bit loads and the stack instructions (spec/41_load16.md): the shared operations, then one meaning
per instruction.
-/

namespace Sys2Proof.Machine

/-- `rr[p] <- nn` (R160). -/
def loadPairImm (p : Reg16) (nn : Word) (s : State) : Result := finish 12 (s.setRr p nn)

/-- `MemWrite(nn, 2, SP)` (R161). -/
def storeSp (nn : Word) (s : State) : Result := finish 20 (s.write16 nn s.regs.sp)

/-- `SP <- HL` (R162). -/
def loadSpHl (s : State) : Result := finish 8 (s.setRr .sp s.hl)

/-- `HL <- SP + e` with the flags of the low-byte addition (R163). -/
def loadHlSpDisp (e : Byte) (s : State) : Result :=
  let r := addDisp s.regs.sp e
  finish 12 ((s.setFlags r.2).setHl r.1)

/-- `Push16(qq[p])` (R164, R165). -/
def pushPair (p : StackPair) (s : State) : Result := finish 16 (s.push16 (s.qq p))

/-- `qq[p] <- Pop16()` (R166, R167). -/
def popPair (p : StackPair) (s : State) : Result := finish 12 (s.dropTop.setQq p s.top16)

/-- `LD BC,nn` (R160). -/
def execLdBcNn (nn : Word) (s : State) : Result := loadPairImm .bc nn s

/-- `LD (nn),SP` (R161). -/
def execLdAtNnSp (nn : Word) (s : State) : Result := storeSp nn s

/-- `LD DE,nn` (R160). -/
def execLdDeNn (nn : Word) (s : State) : Result := loadPairImm .de nn s

/-- `LD HL,nn` (R160). -/
def execLdHlNn (nn : Word) (s : State) : Result := loadPairImm .hl nn s

/-- `LD SP,nn` (R160). -/
def execLdSpNn (nn : Word) (s : State) : Result := loadPairImm .sp nn s

/-- `LD HL,SP+e` (R163). -/
def execLdHlSpDisp (e : Byte) (s : State) : Result := loadHlSpDisp e s

/-- `POP BC` (R167). -/
def execPopBc (s : State) : Result := popPair .bc s

/-- `PUSH BC` (R164). -/
def execPushBc (s : State) : Result := pushPair .bc s

/-- `POP DE` (R167). -/
def execPopDe (s : State) : Result := popPair .de s

/-- `PUSH DE` (R164). -/
def execPushDe (s : State) : Result := pushPair .de s

/-- `POP HL` (R167). -/
def execPopHl (s : State) : Result := popPair .hl s

/-- `PUSH HL` (R164). -/
def execPushHl (s : State) : Result := pushPair .hl s

/-- `POP AF` (R166). -/
def execPopAf (s : State) : Result := popPair .af s

/-- `PUSH AF` (R165). -/
def execPushAf (s : State) : Result := pushPair .af s

/-- `LD SP,HL` (R162). -/
def execLdSpHl (s : State) : Result := loadSpHl s

end Sys2Proof.Machine
end

