-- ==== Sys2Proof/Machine/Load8.lean ====
section
/-!
DEFINITION. The 8-bit loads (spec/40_load8.md): the shared operations, then one meaning per instruction.
-/

namespace Sys2Proof.Machine

/-- `x[dst] <- x[src]` (R130). -/
def loadReg (dst src : Reg8) (s : State) : Result := finish 4 (s.setReg dst (s.reg src))

/-- `x[dst] <- n` (R131). -/
def loadImm (dst : Reg8) (n : Byte) (s : State) : Result := finish 8 (s.setReg dst n)

/-- `x[dst] <- MemRead(addr, 1)` at cost `k` (R132, R135, R136, R139, R141, R143). -/
def loadMem (dst : Reg8) (addr : Word) (k : Nat) (s : State) : Result := finish k (s.setReg dst (s.read8 addr))

/-- `MemWrite(addr, 1, v)` at cost `k` (R133, R134, R137, R138, R140, R142, R144). -/
def storeMem (addr : Word) (v : Byte) (k : Nat) (s : State) : Result := finish k (s.write8 addr v)

/-- `A <- MemRead(HL, 1)`, then `HL` moves by `step` (R145, R147). -/
def loadAHlStep (step : Word) (s : State) : Result :=
  finish 8 ((s.setReg .a (s.read8 s.hl)).setHl (s.hl + step))

/-- `MemWrite(HL, 1, A)`, then `HL` moves by `step` (R146, R148). -/
def storeAHlStep (step : Word) (s : State) : Result :=
  finish 8 ((s.write8 s.hl s.regs.a).setHl (s.hl + step))

/-- `LD B,n` (R131). -/
def execLdBN (n : Byte) (s : State) : Result := loadImm .b n s

/-- `LD C,n` (R131). -/
def execLdCN (n : Byte) (s : State) : Result := loadImm .c n s

/-- `LD D,n` (R131). -/
def execLdDN (n : Byte) (s : State) : Result := loadImm .d n s

/-- `LD E,n` (R131). -/
def execLdEN (n : Byte) (s : State) : Result := loadImm .e n s

/-- `LD H,n` (R131). -/
def execLdHN (n : Byte) (s : State) : Result := loadImm .h n s

/-- `LD L,n` (R131). -/
def execLdLN (n : Byte) (s : State) : Result := loadImm .l n s

/-- `LD (HL),n` (R134). -/
def execLdAtHlN (n : Byte) (s : State) : Result := storeMem s.hl n 12 s

/-- `LD A,n` (R131). -/
def execLdAN (n : Byte) (s : State) : Result := loadImm .a n s

/-- `LDH (n),A` (R144). -/
def execLdhAtNA (n : Byte) (s : State) : Result := storeMem (highPage n) s.regs.a 12 s

/-- `LD (nn),A` (R140). -/
def execLdAtNnA (nn : Word) (s : State) : Result := storeMem nn s.regs.a 16 s

/-- `LDH A,(n)` (R143). -/
def execLdhAAtN (n : Byte) (s : State) : Result := loadMem .a (highPage n) 12 s

/-- `LD A,(nn)` (R139). -/
def execLdAAtNn (nn : Word) (s : State) : Result := loadMem .a nn 16 s

/-- `LD (BC),A` (R137). -/
def execLdAtBcA (s : State) : Result := storeMem s.bc s.regs.a 8 s

/-- `LD A,(BC)` (R135). -/
def execLdAAtBc (s : State) : Result := loadMem .a s.bc 8 s

/-- `LD (DE),A` (R138). -/
def execLdAtDeA (s : State) : Result := storeMem s.de s.regs.a 8 s

/-- `LD A,(DE)` (R136). -/
def execLdAAtDe (s : State) : Result := loadMem .a s.de 8 s

/-- `LD (HL+),A` (R148). -/
def execLdAtHlIncA (s : State) : Result := storeAHlStep 1 s

/-- `LD A,(HL+)` (R147). -/
def execLdAAtHlInc (s : State) : Result := loadAHlStep 1 s

/-- `LD (HL-),A` (R146). -/
def execLdAtHlDecA (s : State) : Result := storeAHlStep (-1) s

/-- `LD A,(HL-)` (R145). -/
def execLdAAtHlDec (s : State) : Result := loadAHlStep (-1) s

/-- `LD B,B` (R130). -/
def execLdBB (s : State) : Result := loadReg .b .b s

/-- `LD B,C` (R130). -/
def execLdBC (s : State) : Result := loadReg .b .c s

/-- `LD B,D` (R130). -/
def execLdBD (s : State) : Result := loadReg .b .d s

/-- `LD B,E` (R130). -/
def execLdBE (s : State) : Result := loadReg .b .e s

/-- `LD B,H` (R130). -/
def execLdBH (s : State) : Result := loadReg .b .h s

/-- `LD B,L` (R130). -/
def execLdBL (s : State) : Result := loadReg .b .l s

/-- `LD B,(HL)` (R132). -/
def execLdBAtHl (s : State) : Result := loadMem .b s.hl 8 s

/-- `LD B,A` (R130). -/
def execLdBA (s : State) : Result := loadReg .b .a s

/-- `LD C,B` (R130). -/
def execLdCB (s : State) : Result := loadReg .c .b s

/-- `LD C,C` (R130). -/
def execLdCC (s : State) : Result := loadReg .c .c s

/-- `LD C,D` (R130). -/
def execLdCD (s : State) : Result := loadReg .c .d s

/-- `LD C,E` (R130). -/
def execLdCE (s : State) : Result := loadReg .c .e s

/-- `LD C,H` (R130). -/
def execLdCH (s : State) : Result := loadReg .c .h s

/-- `LD C,L` (R130). -/
def execLdCL (s : State) : Result := loadReg .c .l s

/-- `LD C,(HL)` (R132). -/
def execLdCAtHl (s : State) : Result := loadMem .c s.hl 8 s

/-- `LD C,A` (R130). -/
def execLdCA (s : State) : Result := loadReg .c .a s

/-- `LD D,B` (R130). -/
def execLdDB (s : State) : Result := loadReg .d .b s

/-- `LD D,C` (R130). -/
def execLdDC (s : State) : Result := loadReg .d .c s

/-- `LD D,D` (R130). -/
def execLdDD (s : State) : Result := loadReg .d .d s

/-- `LD D,E` (R130). -/
def execLdDE (s : State) : Result := loadReg .d .e s

/-- `LD D,H` (R130). -/
def execLdDH (s : State) : Result := loadReg .d .h s

/-- `LD D,L` (R130). -/
def execLdDL (s : State) : Result := loadReg .d .l s

/-- `LD D,(HL)` (R132). -/
def execLdDAtHl (s : State) : Result := loadMem .d s.hl 8 s

/-- `LD D,A` (R130). -/
def execLdDA (s : State) : Result := loadReg .d .a s

/-- `LD E,B` (R130). -/
def execLdEB (s : State) : Result := loadReg .e .b s

/-- `LD E,C` (R130). -/
def execLdEC (s : State) : Result := loadReg .e .c s

/-- `LD E,D` (R130). -/
def execLdED (s : State) : Result := loadReg .e .d s

/-- `LD E,E` (R130). -/
def execLdEE (s : State) : Result := loadReg .e .e s

/-- `LD E,H` (R130). -/
def execLdEH (s : State) : Result := loadReg .e .h s

/-- `LD E,L` (R130). -/
def execLdEL (s : State) : Result := loadReg .e .l s

/-- `LD E,(HL)` (R132). -/
def execLdEAtHl (s : State) : Result := loadMem .e s.hl 8 s

/-- `LD E,A` (R130). -/
def execLdEA (s : State) : Result := loadReg .e .a s

/-- `LD H,B` (R130). -/
def execLdHB (s : State) : Result := loadReg .h .b s

/-- `LD H,C` (R130). -/
def execLdHC (s : State) : Result := loadReg .h .c s

/-- `LD H,D` (R130). -/
def execLdHD (s : State) : Result := loadReg .h .d s

/-- `LD H,E` (R130). -/
def execLdHE (s : State) : Result := loadReg .h .e s

/-- `LD H,H` (R130). -/
def execLdHH (s : State) : Result := loadReg .h .h s

/-- `LD H,L` (R130). -/
def execLdHL (s : State) : Result := loadReg .h .l s

/-- `LD H,(HL)` (R132). -/
def execLdHAtHl (s : State) : Result := loadMem .h s.hl 8 s

/-- `LD H,A` (R130). -/
def execLdHA (s : State) : Result := loadReg .h .a s

/-- `LD L,B` (R130). -/
def execLdLB (s : State) : Result := loadReg .l .b s

/-- `LD L,C` (R130). -/
def execLdLC (s : State) : Result := loadReg .l .c s

/-- `LD L,D` (R130). -/
def execLdLD (s : State) : Result := loadReg .l .d s

/-- `LD L,E` (R130). -/
def execLdLE (s : State) : Result := loadReg .l .e s

/-- `LD L,H` (R130). -/
def execLdLH (s : State) : Result := loadReg .l .h s

/-- `LD L,L` (R130). -/
def execLdLL (s : State) : Result := loadReg .l .l s

/-- `LD L,(HL)` (R132). -/
def execLdLAtHl (s : State) : Result := loadMem .l s.hl 8 s

/-- `LD L,A` (R130). -/
def execLdLA (s : State) : Result := loadReg .l .a s

/-- `LD (HL),B` (R133). -/
def execLdAtHlB (s : State) : Result := storeMem s.hl (s.reg .b) 8 s

/-- `LD (HL),C` (R133). -/
def execLdAtHlC (s : State) : Result := storeMem s.hl (s.reg .c) 8 s

/-- `LD (HL),D` (R133). -/
def execLdAtHlD (s : State) : Result := storeMem s.hl (s.reg .d) 8 s

/-- `LD (HL),E` (R133). -/
def execLdAtHlE (s : State) : Result := storeMem s.hl (s.reg .e) 8 s

/-- `LD (HL),H` (R133). -/
def execLdAtHlH (s : State) : Result := storeMem s.hl (s.reg .h) 8 s

/-- `LD (HL),L` (R133). -/
def execLdAtHlL (s : State) : Result := storeMem s.hl (s.reg .l) 8 s

/-- `LD (HL),A` (R133). -/
def execLdAtHlA (s : State) : Result := storeMem s.hl (s.reg .a) 8 s

/-- `LD A,B` (R130). -/
def execLdAB (s : State) : Result := loadReg .a .b s

/-- `LD A,C` (R130). -/
def execLdAC (s : State) : Result := loadReg .a .c s

/-- `LD A,D` (R130). -/
def execLdAD (s : State) : Result := loadReg .a .d s

/-- `LD A,E` (R130). -/
def execLdAE (s : State) : Result := loadReg .a .e s

/-- `LD A,H` (R130). -/
def execLdAH (s : State) : Result := loadReg .a .h s

/-- `LD A,L` (R130). -/
def execLdAL (s : State) : Result := loadReg .a .l s

/-- `LD A,(HL)` (R132). -/
def execLdAAtHl (s : State) : Result := loadMem .a s.hl 8 s

/-- `LD A,A` (R130). -/
def execLdAA (s : State) : Result := loadReg .a .a s

/-- `LDH (C),A` (R142). -/
def execLdhAtCA (s : State) : Result := storeMem (highPage s.regs.c) s.regs.a 8 s

/-- `LDH A,(C)` (R141). -/
def execLdhAAtC (s : State) : Result := loadMem .a (highPage s.regs.c) 8 s

end Sys2Proof.Machine
end

