-- ==== Sys2Proof/Machine/Rotate.lean ====
section
/-!
DEFINITION. Rotates and shifts (spec/44_rotate_shift_bit.md, R220 to R239): the shared operations, then one meaning
per instruction.
-/

namespace Sys2Proof.Machine

/-- The one-byte accumulator rotates, `Zf` forced to 0 (R220 to R223). -/
def rotAcc (op : RotOp) (s : State) : Result :=
  let r := rotate8 op s.regs.a s.regs.flags.c
  finish 4 ((s.setReg .a r.1).setFlags (rotAccFlags r))

/-- A prefixed rotate or shift of a register (R224, R226, R228, R230, R232, R234, R236, R238). -/
def rotReg (op : RotOp) (r : Reg8) (s : State) : Result :=
  let v := rotate8 op (s.reg r) s.regs.flags.c
  finish 8 ((s.setReg r v.1).setFlags (rotFlags v))

/-- A prefixed rotate or shift of the byte at `HL` (R225, R227, R229, R231, R233, R235, R237, R239). -/
def rotMem (op : RotOp) (s : State) : Result :=
  let v := rotate8 op (s.read8 s.hl) s.regs.flags.c
  finish 16 ((s.write8 s.hl v.1).setFlags (rotFlags v))

/-- `RLCA` (R220). -/
def execRlca (s : State) : Result := rotAcc .rlc s

/-- `RRCA` (R222). -/
def execRrca (s : State) : Result := rotAcc .rrc s

/-- `RLA` (R221). -/
def execRla (s : State) : Result := rotAcc .rl s

/-- `RRA` (R223). -/
def execRra (s : State) : Result := rotAcc .rr s

/-- `RLC B` (R224). -/
def execRlcB (s : State) : Result := rotReg .rlc .b s

/-- `RLC C` (R224). -/
def execRlcC (s : State) : Result := rotReg .rlc .c s

/-- `RLC D` (R224). -/
def execRlcD (s : State) : Result := rotReg .rlc .d s

/-- `RLC E` (R224). -/
def execRlcE (s : State) : Result := rotReg .rlc .e s

/-- `RLC H` (R224). -/
def execRlcH (s : State) : Result := rotReg .rlc .h s

/-- `RLC L` (R224). -/
def execRlcL (s : State) : Result := rotReg .rlc .l s

/-- `RLC (HL)` (R225). -/
def execRlcAtHl (s : State) : Result := rotMem .rlc s

/-- `RLC A` (R224). -/
def execRlcA (s : State) : Result := rotReg .rlc .a s

/-- `RRC B` (R226). -/
def execRrcB (s : State) : Result := rotReg .rrc .b s

/-- `RRC C` (R226). -/
def execRrcC (s : State) : Result := rotReg .rrc .c s

/-- `RRC D` (R226). -/
def execRrcD (s : State) : Result := rotReg .rrc .d s

/-- `RRC E` (R226). -/
def execRrcE (s : State) : Result := rotReg .rrc .e s

/-- `RRC H` (R226). -/
def execRrcH (s : State) : Result := rotReg .rrc .h s

/-- `RRC L` (R226). -/
def execRrcL (s : State) : Result := rotReg .rrc .l s

/-- `RRC (HL)` (R227). -/
def execRrcAtHl (s : State) : Result := rotMem .rrc s

/-- `RRC A` (R226). -/
def execRrcA (s : State) : Result := rotReg .rrc .a s

/-- `RL B` (R228). -/
def execRlB (s : State) : Result := rotReg .rl .b s

/-- `RL C` (R228). -/
def execRlC (s : State) : Result := rotReg .rl .c s

/-- `RL D` (R228). -/
def execRlD (s : State) : Result := rotReg .rl .d s

/-- `RL E` (R228). -/
def execRlE (s : State) : Result := rotReg .rl .e s

/-- `RL H` (R228). -/
def execRlH (s : State) : Result := rotReg .rl .h s

/-- `RL L` (R228). -/
def execRlL (s : State) : Result := rotReg .rl .l s

/-- `RL (HL)` (R229). -/
def execRlAtHl (s : State) : Result := rotMem .rl s

/-- `RL A` (R228). -/
def execRlA (s : State) : Result := rotReg .rl .a s

/-- `RR B` (R230). -/
def execRrB (s : State) : Result := rotReg .rr .b s

/-- `RR C` (R230). -/
def execRrC (s : State) : Result := rotReg .rr .c s

/-- `RR D` (R230). -/
def execRrD (s : State) : Result := rotReg .rr .d s

/-- `RR E` (R230). -/
def execRrE (s : State) : Result := rotReg .rr .e s

/-- `RR H` (R230). -/
def execRrH (s : State) : Result := rotReg .rr .h s

/-- `RR L` (R230). -/
def execRrL (s : State) : Result := rotReg .rr .l s

/-- `RR (HL)` (R231). -/
def execRrAtHl (s : State) : Result := rotMem .rr s

/-- `RR A` (R230). -/
def execRrA (s : State) : Result := rotReg .rr .a s

/-- `SLA B` (R232). -/
def execSlaB (s : State) : Result := rotReg .sla .b s

/-- `SLA C` (R232). -/
def execSlaC (s : State) : Result := rotReg .sla .c s

/-- `SLA D` (R232). -/
def execSlaD (s : State) : Result := rotReg .sla .d s

/-- `SLA E` (R232). -/
def execSlaE (s : State) : Result := rotReg .sla .e s

/-- `SLA H` (R232). -/
def execSlaH (s : State) : Result := rotReg .sla .h s

/-- `SLA L` (R232). -/
def execSlaL (s : State) : Result := rotReg .sla .l s

/-- `SLA (HL)` (R233). -/
def execSlaAtHl (s : State) : Result := rotMem .sla s

/-- `SLA A` (R232). -/
def execSlaA (s : State) : Result := rotReg .sla .a s

/-- `SRA B` (R234). -/
def execSraB (s : State) : Result := rotReg .sra .b s

/-- `SRA C` (R234). -/
def execSraC (s : State) : Result := rotReg .sra .c s

/-- `SRA D` (R234). -/
def execSraD (s : State) : Result := rotReg .sra .d s

/-- `SRA E` (R234). -/
def execSraE (s : State) : Result := rotReg .sra .e s

/-- `SRA H` (R234). -/
def execSraH (s : State) : Result := rotReg .sra .h s

/-- `SRA L` (R234). -/
def execSraL (s : State) : Result := rotReg .sra .l s

/-- `SRA (HL)` (R235). -/
def execSraAtHl (s : State) : Result := rotMem .sra s

/-- `SRA A` (R234). -/
def execSraA (s : State) : Result := rotReg .sra .a s

/-- `SWAP B` (R236). -/
def execSwapB (s : State) : Result := rotReg .swap .b s

/-- `SWAP C` (R236). -/
def execSwapC (s : State) : Result := rotReg .swap .c s

/-- `SWAP D` (R236). -/
def execSwapD (s : State) : Result := rotReg .swap .d s

/-- `SWAP E` (R236). -/
def execSwapE (s : State) : Result := rotReg .swap .e s

/-- `SWAP H` (R236). -/
def execSwapH (s : State) : Result := rotReg .swap .h s

/-- `SWAP L` (R236). -/
def execSwapL (s : State) : Result := rotReg .swap .l s

/-- `SWAP (HL)` (R237). -/
def execSwapAtHl (s : State) : Result := rotMem .swap s

/-- `SWAP A` (R236). -/
def execSwapA (s : State) : Result := rotReg .swap .a s

/-- `SRL B` (R238). -/
def execSrlB (s : State) : Result := rotReg .srl .b s

/-- `SRL C` (R238). -/
def execSrlC (s : State) : Result := rotReg .srl .c s

/-- `SRL D` (R238). -/
def execSrlD (s : State) : Result := rotReg .srl .d s

/-- `SRL E` (R238). -/
def execSrlE (s : State) : Result := rotReg .srl .e s

/-- `SRL H` (R238). -/
def execSrlH (s : State) : Result := rotReg .srl .h s

/-- `SRL L` (R238). -/
def execSrlL (s : State) : Result := rotReg .srl .l s

/-- `SRL (HL)` (R239). -/
def execSrlAtHl (s : State) : Result := rotMem .srl s

/-- `SRL A` (R238). -/
def execSrlA (s : State) : Result := rotReg .srl .a s

end Sys2Proof.Machine
end

