-- ==== Sys2Proof/Machine/System.lean ====
section
/-!
DEFINITION. The system instructions, the prefix and the illegal bytes (spec/46_system.md): the shared operations, then
one meaning per instruction.
-/

namespace Sys2Proof.Machine

/-- Enter a run state (R281, R282). -/
def enterRun (r : RunState) (s : State) : Result := finish 4 { s with runState := r }

/-- Write `IME` (R283, R284). -/
def setIme (b : Bool) (s : State) : Result := finish 4 { s with ime := b }

/-- The prefixed instruction of a second byte, from its fields `x`, `y` and `z` (R103, R115). A second
prefix byte is `SET 1,E` by its fields, not the `SWAP E` of a sentence of R285 (DEDUCED, unsafe, entry 23). -/
def execSecondary (op2 : Byte) (s : State) : Result :=
  let x := op2.toNat / 64
  let y := op2.toNat / 8 % 8
  match Reg8.ofCode (op2.toNat % 8) with
  | some r =>
    match x with
    | 0 => rotReg (RotOp.ofCode y) r s
    | 1 => bitReg y r s
    | 2 => resReg y r s
    | _ => setReg y r s
  | none =>
    match x with
    | 0 => rotMem (RotOp.ofCode y) s
    | 1 => bitMem y s
    | 2 => resMem y s
    | _ => setMem y s

/-- The prefix byte by itself: fetch one more byte and dispatch through the secondary table (R285). The decoder gives
the prefixed instruction directly, so no step reaches this (entry 11). -/
def runSecondary (s : State) : Result :=
  execSecondary (s.read8 s.regs.pc) (s.setPc (s.regs.pc + 1))

/-- An illegal opcode byte: the fatal condition, with the address the byte was fetched from, at no cost (R286). -/
def unknownOpcode (op : Byte) (s : State) : Result :=
  finish 0 (raiseFatal .unknownOpcode (s.regs.pc - 1) op s)

/-- `STOP` (R282). -/
def execStop (_n : Byte) (s : State) : Result := enterRun .stopped s

/-- `ILLEGAL` (R286). -/
def execIllegal (op : Byte) (s : State) : Result := unknownOpcode op s

/-- `NOP` (R280). -/
def execNop (s : State) : Result := finish 4 s

/-- `HALT` (R281). -/
def execHalt (s : State) : Result := enterRun .halted s

/-- `PREFIX CB` (R285; entry 11 for the byte alone, entry 23 for a second prefix byte). -/
def execPrefixCb (s : State) : Result := runSecondary s

/-- `DI` (R283). -/
def execDi (s : State) : Result := setIme false s

/-- `EI` (R284). -/
def execEi (s : State) : Result := setIme true s

end Sys2Proof.Machine
end

