-- ==== Sys2Proof/Machine/Ppu.lean ====
section
/-!
DEFINITION. The PPU: tiles, sprites, the line rasteriser and the scanline state machine (spec/47_ppu.md). It reads
`vram` and `oam` directly, never through the decoder (R89), and reads its registers when a rule runs (R298).
-/

namespace Sys2Proof.Machine

/-- The colour index of column `c` of a tile row: `2 × hi[7 − c] + lo[7 − c]` (R303). -/
def tilePixel (lo hi : Byte) (c : Nat) : Colour :=
  BitVec.ofNat 2 (2 * (bitOf hi (7 - c)).toNat + (bitOf lo (7 - c)).toNat)

/-- `DecodeTile(a)` (R303). -/
def decodeTile (m : Memory) (a : Nat) : Tile :=
  (List.range 8).map fun r =>
    (List.range 8).map fun c => tilePixel (Memory.get m (a + 2 * r)) (Memory.get m (a + 2 * r + 1)) c

/-- The address of sprite tile `t` (R303). -/
def objTileAddr (t : Nat) : Nat := 0x8000 + 16 * t

/-- The address of background tile `t`, by `LCDC[4]` (R291, R303). -/
def bgTileAddr (lcdc : Byte) (t : Nat) : Nat :=
  if bitOf lcdc 4 then 0x8000 + 16 * t else (0x9000 + 16 * signed8 (BitVec.ofNat 8 t)).toNat

/-- `DecodeTiles()`: both caches are rebuilt from `vram` (R303). -/
def State.decodeTiles (s : State) : State :=
  { s with
    ppu.bgTiles := (List.range 256).map fun t => decodeTile s.mem (bgTileAddr s.io.lcdc t)
    ppu.objTiles := (List.range 256).map fun t => decodeTile s.mem (objTileAddr t) }

/-- The height of a sprite, by `LCDC[2]` (R291, R304). -/
def State.spriteHeight (s : State) : Nat := if bitOf s.io.lcdc 2 then 16 else 8

/-- The four bytes of OAM entry `i` (R305). -/
def State.oamEntry (s : State) (i : Nat) : Sprite :=
  let at' := fun k => Memory.get s.mem (0xFE00 + 4 * i + k)
  { index := i, y := at' 0, x := at' 1, tile := at' 2, attr := at' 3 }

/-- A sprite meets line `L` (R304). -/
def Sprite.onLine (sp : Sprite) (h L : Nat) : Bool :=
  decide (sp.y.toNat ≤ L + 16) && decide (L + 16 < sp.y.toNat + h)

/-- `OAMSelect(L)`: the first ten sprites that meet the line, in table order (R304). -/
def State.oamSelect (s : State) (L : Nat) : List Sprite :=
  (((List.range 40).map s.oamEntry).filter fun sp => sp.onLine s.spriteHeight L).take 10

/-- `Shade(pal, i) = (pal >> (2 × i)) & 3` (R295). -/
def shade (pal : Byte) (i : Colour) : Colour := (pal >>> (2 * i.toNat)).setWidth 2

/-- The colour index at a row and a column of a tile of a cache. -/
def tileColour (tiles : List Tile) (t row col : Nat) : Colour := ((tiles.getD t []).getD row []).getD col 0

/-- The background tile cache at pixel `(py, px)` of a 32×32 map of tile numbers (R308, R309). -/
def State.mapColour (s : State) (highMap : Bool) (py px : Nat) : Colour :=
  let map := if highMap then 0x9C00 else 0x9800
  let t := Memory.get s.mem (map + 32 * (py / 8) + px / 8)
  tileColour s.ppu.bgTiles t.toNat (py % 8) (px % 8)

/-- The window covers screen pixel `(L, X)` (R309). -/
def State.windowCovers (s : State) (L X : Nat) : Bool :=
  bitOf s.io.lcdc 0 && bitOf s.io.lcdc 5 && decide (s.io.wy.toNat ≤ L) && decide (s.io.wx.toNat ≤ X + 7)

/-- `BGIndex(L, X)` (R308, R309). -/
def State.bgIndex (s : State) (L X : Nat) : Colour :=
  if !bitOf s.io.lcdc 0 then 0
  else if s.windowCovers L X then
    s.mapColour (bitOf s.io.lcdc 6) (L - s.io.wy.toNat) (X + 7 - s.io.wx.toNat)
  else s.mapColour (bitOf s.io.lcdc 3) ((L + s.io.scy.toNat) % 256) ((X + s.io.scx.toNat) % 256)

/-- The tile and the row of it that sprite row `row` shows, after the vertical flip (R310). -/
def Sprite.tileRow (sp : Sprite) (h row : Nat) : Nat × Nat :=
  let r := if bitOf sp.attr 6 then h - 1 - row else row
  if h = 16 then ((sp.tile &&& 0xFE).toNat + (if r ≥ 8 then 1 else 0), r % 8) else (sp.tile.toNat, r)

/-- Sprite pixel `p`, 0 leftmost on the screen, put on a line: off-screen and transparent pixels leave it (R310). -/
def State.overlayPixel (s : State) (sp : Sprite) (t row : Nat) (line : List Colour) (p : Nat) : List Colour :=
  let x := sp.x.toNat + p
  if 8 ≤ x ∧ x < 168 then
    let idx := tileColour s.ppu.objTiles t row (if bitOf sp.attr 5 then 7 - p else p)
    if idx = 0 then line
    else line.set (x - 8) (shade (if bitOf sp.attr 4 then s.io.obp1 else s.io.obp0) idx)
  else line

/-- One selected sprite put on line `L` (R310); it is skipped when it no longer meets the line. -/
def State.overlaySprite (s : State) (L : Nat) (line : List Colour) (sp : Sprite) : List Colour :=
  if sp.onLine s.spriteHeight L then
    let tr := sp.tileRow s.spriteHeight (L + 16 - sp.y.toNat)
    (List.range 8).foldl (s.overlayPixel sp tr.1 tr.2) line
  else line

/-- The 160 pixels of line `L`: the background, then the selected sprites in list order when `LCDC[1]` = 1 (R307). -/
def State.linePixels (s : State) (L : Nat) : List Colour :=
  let background := (List.range 160).map fun x => shade s.io.bgp (s.bgIndex L x)
  if bitOf s.io.lcdc 1 then s.ppu.selected.foldl (s.overlaySprite L) background else background

/-- `DrawLine(L)`: row `L` of `fb` is replaced, no other row changes (R307). -/
def State.drawLine (s : State) (L : Nat) : State := { s with ppu.fb := s.ppu.fb.set L (s.linePixels L) }

/-- The cycles a mode lasts, its threshold on `acc` (R301). -/
def PpuMode.threshold : PpuMode → Nat
  | .oamScan => 80
  | .pixelTransfer => 172
  | .hBlank => 204
  | .vBlank => 456

/-- The end of OAMScan (R301). -/
def endOamScan (s : State) : State := { s with ppu.mode := .pixelTransfer }

/-- The end of PixelTransfer: the tiles are decoded and the line is drawn (R301, R306). -/
def endPixelTransfer (s : State) : State := ({ s.decodeTiles with ppu.mode := .hBlank } : State).drawLine s.ppu.ly

/-- The entry of OAMScan for line `L` (R301, R304). -/
def beginLine (L : Nat) (s : State) : State :=
  { s with ppu.ly := L, ppu.mode := .oamScan, ppu.selected := s.oamSelect L }

/-- The entry of VBlank: the V-Blank request and the frame-ready signal (R301, R312). -/
def beginVBlank (s : State) : State :=
  { s with ppu.ly := 144, ppu.mode := .vBlank, iflag := s.iflag ||| 0x01, frameReady := true }

/-- The end of HBlank (R299, R301). -/
def endHBlank (s : State) : State :=
  if s.ppu.ly + 1 = 144 then beginVBlank s else beginLine (s.ppu.ly + 1) s

/-- The end of a line of VBlank (R299, R301). -/
def endVBlankLine (s : State) : State :=
  if s.ppu.ly + 1 = 144 + s.cfg.vblankLines then beginLine 0 s else { s with ppu.ly := s.ppu.ly + 1 }

/-- The end of the current mode (R301). -/
def endMode (s : State) : State :=
  match s.ppu.mode with
  | .oamScan => endOamScan s
  | .pixelTransfer => endPixelTransfer s
  | .hBlank => endHBlank s
  | .vBlank => endVBlankLine s

/-- The mode's cycles taken off the accumulator, the remainder kept (R299). -/
def chargeMode (s : State) : State := { s with ppu.acc := s.ppu.acc - s.ppu.mode.threshold }

/-- One pass of the loop of `PPUTick`, if the accumulator has reached the mode's threshold (R299, R301). -/
def ppuTransition (s : State) : Option State :=
  if s.ppu.acc < s.ppu.mode.threshold then none else some (endMode (chargeMode s))

/-- The loop of `PPUTick`, at most `fuel` passes (R299). -/
def ppuLoop : Nat → State → State
  | 0, s => s
  | fuel + 1, s =>
    match ppuTransition s with
    | none => s
    | some s' => ppuLoop fuel s'

/-- The display is disabled: the PPU is held (R299). -/
def ppuHold (s : State) : State :=
  { s with ppu.acc := 0, ppu.ly := 0, ppu.mode := .oamScan, ppu.selected := [] }

/-- `PPUTick(c)` (R299). Each pass of the loop takes at least 80 off the accumulator, so `acc / 80` passes reach its
exit (entry 18). -/
def ppuTick (c : Nat) (s : State) : State :=
  if bitOf s.io.lcdc 7 then
    let s1 : State := { s with ppu.acc := s.ppu.acc + c }
    ppuLoop (s1.ppu.acc / 80) s1
  else ppuHold s

end Sys2Proof.Machine
end

