-- ==== Sys2Proof/Machine/Tick.lean ====
section
/-!
DEFINITION. The Processor tick and one iteration of the orchestrator's loop (spec/48_machine_step.md).
-/

namespace Sys2Proof.Machine

/-- The instruction at `pc` and its length. Its bytes are read through the bus like any other (R14, R93); reads have
no side effect (R78), so reading three bytes at once is the same as reading each when it is needed (entry 10). -/
def State.fetchDecode (s : State) : Instr × Nat :=
  decodeAt (s.read8 s.regs.pc) (s.read8 (s.regs.pc + 1)) (s.read8 (s.regs.pc + 2))

/-- `pc` moved past an instruction of `len` bytes (R25). -/
def State.advance (s : State) (len : Nat) : State := s.setPc (s.regs.pc + BitVec.ofNat 16 len)

/-- Fetch an instruction, move `pc` past it, and execute it (R100, R341). -/
def fetchExecute (s : State) : Result :=
  let d := s.fetchDecode
  exec d.1 (s.advance d.2)

/-- The cycles of a tick that does nothing: the fatal record is non-empty (R344), the Processor is stopped and no input
is pressed (R343), or it is halted and nothing is pending (R342). -/
def State.idleCycles (s : State) : Option Nat :=
  if s.fatal.isSome then some 0
  else
    match s.runState with
    | .running => none
    | .stopped => if s.input.anyPressed then none else some 0
    | .halted => if s.pending = 0 then some 4 else none

/-- `ProcessorTick()` (R341): one idle step, one interrupt service or one instruction. A tick that is not idle runs, so
a wake from `halted` or `stopped` continues in the same tick (R341 to R343). -/
def processorTick (s : State) : Result :=
  match s.idleCycles with
  | some k => finish k s
  | none =>
    let s1 : State := { s with runState := .running }
    if s1.ime ∧ s1.pending ≠ 0 then finish s1.cfg.intServiceCycles (serviceInterrupt s1.pending s1)
    else fetchExecute s1

/-- The host sets its inputs for the coming iteration (R346, R350): the next of the queue, or none of them changes
(entry 3). -/
def sampleHost (s : State) : State :=
  match s.hostQueue with
  | [] => s
  | i :: rest => { s with input := i, hostQueue := rest }

/-- The top of an iteration: `frameReady <- 0`, no report yet, and the host sets its inputs (R346). -/
def beginIteration (s : State) : State := sampleHost { s with frameReady := false, report := none }

/-- The bottom of an iteration (R346, R348, R349): `before` is the fatal record at its top. A record that became
non-empty is reported once and ends the run; so does a stop request. -/
def endIteration (before : Option FatalRecord) (s : State) : State :=
  let report := if before.isNone then s.fatal else none
  { s with report := report, stopFlag := s.stopFlag || report.isSome || s.input.stopRequested }

/-- One iteration of the loop (R346). After the loop has exited there is none (R348, R352). -/
def iteration (s : State) : Result :=
  if s.stopFlag then .fault .runEnded
  else
    match processorTick (beginIteration s) with
    | .next s1 => .next (endIteration s.fatal (ppuTick s1.cycles s1))
    | .fault f => .fault f
    | .refused r => .refused r

/-- The three bytes from `a` on are stored bytes, so that an instruction can be placed there. -/
def placeable (a : Word) : Bool :=
  decide (targetOf a = .cell) && decide (targetOf (a + 1) = .cell) && decide (targetOf (a + 2) = .cell)

/-- Store three bytes from `a` on, directly in storage. -/
def placeBytes (m : Memory) (a : Word) (b0 b1 b2 : Byte) : Memory :=
  Memory.set (Memory.set (Memory.set m a.toNat b0) (a + 1).toNat b1) (a + 2).toNat b2

/-- Make the next tick fetch: the run has not ended, the Processor runs, and no interrupt is serviced first. -/
def State.readyToFetch (s : State) : State :=
  { s with
    stopFlag := false
    fatal := none
    runState := .running
    ime := if s.pending = 0 then s.ime else false }

end Sys2Proof.Machine
end

