-- ==== Sys2Proof/Machine/Step.lean ====
section
/-!
DEFINITION. The step of the machine: one iteration of the orchestrator's loop (R346 of spec/48_machine_step.md).
-/

namespace Sys2Proof.Machine

/-- One step. -/
def step (s : State) : Host.Outcome State Fault Refusal := iteration s

/-- `s` with the instruction of an opcode-table word stored where the next step fetches (entry 16): at `pc`, or at
0xC000 in work RAM if `pc` points where no byte is stored. -/
def State.withFetchWord (s : State) (nbits w : Nat) : State :=
  let a := if placeable s.regs.pc then s.regs.pc else 0xC000
  match tableBytes nbits w with
  | b0 :: b1 :: b2 :: _ => { s.readyToFetch.setPc a with mem := placeBytes s.mem a b0 b1 b2 }
  | _ => s

end Sys2Proof.Machine
end

