-- ==== Sys2Proof/Machine/Effects.lean ====
section
/-!
DEFINITION. What an instruction may write, read off the rules: the bytes it stores and whether it writes a flag. The
statements about what instructions leave unchanged are stated with these; no meaning uses them.
-/

namespace Sys2Proof.Machine

/-- Where an instruction stores, and how many bytes (spec/40_load8.md to spec/45_control.md): the address its meaning
computes, in the state its meaning runs in. `none` for a form that stores nothing. The prefix byte alone is no
instruction (R285) and is not covered. -/
def storesTo (s : State) : Instr → Option (Word × Nat)
  | .ldAtNnSp nn => some (nn, 2)
  | .ldAtHlN _ => some (s.hl, 1)
  | .callNzNn _ => if s.cond .nz then some (s.regs.sp - 2, 2) else none
  | .callZNn _ => if s.cond .z then some (s.regs.sp - 2, 2) else none
  | .callNn _ => some (s.regs.sp - 2, 2)
  | .callNcNn _ => if s.cond .nc then some (s.regs.sp - 2, 2) else none
  | .callCNn _ => if s.cond .c then some (s.regs.sp - 2, 2) else none
  | .ldhAtNA n => some (highPage n, 1)
  | .ldAtNnA nn => some (nn, 1)
  | .ldAtBcA => some (s.bc, 1)
  | .ldAtDeA => some (s.de, 1)
  | .ldAtHlIncA => some (s.hl, 1)
  | .ldAtHlDecA => some (s.hl, 1)
  | .incAtHl => some (s.hl, 1)
  | .decAtHl => some (s.hl, 1)
  | .ldAtHlB => some (s.hl, 1)
  | .ldAtHlC => some (s.hl, 1)
  | .ldAtHlD => some (s.hl, 1)
  | .ldAtHlE => some (s.hl, 1)
  | .ldAtHlH => some (s.hl, 1)
  | .ldAtHlL => some (s.hl, 1)
  | .ldAtHlA => some (s.hl, 1)
  | .pushBc => some (s.regs.sp - 2, 2)
  | .rst00 => some (s.regs.sp - 2, 2)
  | .rst08 => some (s.regs.sp - 2, 2)
  | .pushDe => some (s.regs.sp - 2, 2)
  | .rst10 => some (s.regs.sp - 2, 2)
  | .rst18 => some (s.regs.sp - 2, 2)
  | .ldhAtCA => some (highPage s.regs.c, 1)
  | .pushHl => some (s.regs.sp - 2, 2)
  | .rst20 => some (s.regs.sp - 2, 2)
  | .rst28 => some (s.regs.sp - 2, 2)
  | .pushAf => some (s.regs.sp - 2, 2)
  | .rst30 => some (s.regs.sp - 2, 2)
  | .rst38 => some (s.regs.sp - 2, 2)
  | .rlcAtHl => some (s.hl, 1)
  | .rrcAtHl => some (s.hl, 1)
  | .rlAtHl => some (s.hl, 1)
  | .rrAtHl => some (s.hl, 1)
  | .slaAtHl => some (s.hl, 1)
  | .sraAtHl => some (s.hl, 1)
  | .swapAtHl => some (s.hl, 1)
  | .srlAtHl => some (s.hl, 1)
  | .res0AtHl => some (s.hl, 1)
  | .res1AtHl => some (s.hl, 1)
  | .res2AtHl => some (s.hl, 1)
  | .res3AtHl => some (s.hl, 1)
  | .res4AtHl => some (s.hl, 1)
  | .res5AtHl => some (s.hl, 1)
  | .res6AtHl => some (s.hl, 1)
  | .res7AtHl => some (s.hl, 1)
  | .set0AtHl => some (s.hl, 1)
  | .set1AtHl => some (s.hl, 1)
  | .set2AtHl => some (s.hl, 1)
  | .set3AtHl => some (s.hl, 1)
  | .set4AtHl => some (s.hl, 1)
  | .set5AtHl => some (s.hl, 1)
  | .set6AtHl => some (s.hl, 1)
  | .set7AtHl => some (s.hl, 1)
  | _ => none

/-- The instructions that write a flag (R30, R32). -/
def writesFlags : Instr → Bool
  | .addAN _ | .adcAN _ | .subN _ | .sbcAN _ | .andN _ | .addSpDisp _ | .xorN _ | .orN _ | .ldHlSpDisp _ | .cpN _
  | .incB | .decB | .rlca | .addHlBc | .incC | .decC | .rrca | .incD | .decD | .rla | .addHlDe | .incE | .decE
  | .rra | .incH | .decH | .daa | .addHlHl | .incL | .decL | .cpl | .incAtHl | .decAtHl | .scf | .addHlSp | .incA
  | .decA | .ccf | .addAB | .addAC | .addAD | .addAE | .addAH | .addAL | .addAAtHl | .addAA | .adcAB | .adcAC
  | .adcAD | .adcAE | .adcAH | .adcAL | .adcAAtHl | .adcAA | .subB | .subC | .subD | .subE | .subH | .subL
  | .subAtHl | .subA | .sbcAB | .sbcAC | .sbcAD | .sbcAE | .sbcAH | .sbcAL | .sbcAAtHl | .sbcAA | .andB | .andC
  | .andD | .andE | .andH | .andL | .andAtHl | .andA | .xorB | .xorC | .xorD | .xorE | .xorH | .xorL | .xorAtHl
  | .xorA | .orB | .orC | .orD | .orE | .orH | .orL | .orAtHl | .orA | .cpB | .cpC | .cpD | .cpE | .cpH | .cpL
  | .cpAtHl | .cpA | .popAf | .rlcB | .rlcC | .rlcD | .rlcE | .rlcH | .rlcL | .rlcAtHl | .rlcA | .rrcB | .rrcC
  | .rrcD | .rrcE | .rrcH | .rrcL | .rrcAtHl | .rrcA | .rlB | .rlC | .rlD | .rlE | .rlH | .rlL | .rlAtHl | .rlA
  | .rrB | .rrC | .rrD | .rrE | .rrH | .rrL | .rrAtHl | .rrA | .slaB | .slaC | .slaD | .slaE | .slaH | .slaL
  | .slaAtHl | .slaA | .sraB | .sraC | .sraD | .sraE | .sraH | .sraL | .sraAtHl | .sraA | .swapB | .swapC
  | .swapD | .swapE | .swapH | .swapL | .swapAtHl | .swapA | .srlB | .srlC | .srlD | .srlE | .srlH | .srlL
  | .srlAtHl | .srlA | .bit0B | .bit0C | .bit0D | .bit0E | .bit0H | .bit0L | .bit0AtHl | .bit0A | .bit1B | .bit1C
  | .bit1D | .bit1E | .bit1H | .bit1L | .bit1AtHl | .bit1A | .bit2B | .bit2C | .bit2D | .bit2E | .bit2H | .bit2L
  | .bit2AtHl | .bit2A | .bit3B | .bit3C | .bit3D | .bit3E | .bit3H | .bit3L | .bit3AtHl | .bit3A | .bit4B
  | .bit4C | .bit4D | .bit4E | .bit4H | .bit4L | .bit4AtHl | .bit4A | .bit5B | .bit5C | .bit5D | .bit5E | .bit5H
  | .bit5L | .bit5AtHl | .bit5A | .bit6B | .bit6C | .bit6D | .bit6E | .bit6H | .bit6L | .bit6AtHl | .bit6A
  | .bit7B | .bit7C | .bit7D | .bit7E | .bit7H | .bit7L | .bit7AtHl | .bit7A => true
  | _ => false

end Sys2Proof.Machine
end

