-- ==== Sys2Proof/Safety.lean ====
section
/-!
DEFINITION. What every state between two steps satisfies: the invariant of the machine. A run is safe when all its
states satisfy it. Each field cites the rule it comes from.
-/

namespace Sys2Proof

/-- The parameters are in their domain: VBlank lasts a line or more (R42 and R300 take `143 + VBLANK_LINES` as the last
line), and the cartridge image is in the canonical form of a memory. -/
def Config.valid (cfg : Config) : Prop := 1 ≤ cfg.vblankLines ∧ Machine.Memory.wf cfg.cartImage = true

end Sys2Proof

namespace Sys2Proof.Machine

/-- A tile is 8 rows of 8 colour indexes (R45). -/
def Tile.shaped (t : Tile) : Prop := t.length = 8 ∧ ∀ row ∈ t, row.length = 8

/-- The invariant. -/
structure State.Inv (s : State) : Prop where
  /-- VBlank lasts a line or more. -/
  lines : 1 ≤ s.cfg.vblankLines
  /-- Memory is in its canonical form. -/
  mem_wf : Memory.wf s.mem = true
  /-- Memory lists stored bytes only: no sentinel window, no named register (R38, R40, R69). -/
  mem_cells : ∀ cell ∈ s.mem, cell.1 < 0x10000 ∧ targetOf (BitVec.ofNat 16 cell.1) = .cell
  /-- Only the V-Blank request is ever set (R34, R361). -/
  request : s.iflag &&& 0xFE = 0
  /-- `STATsel` holds bits 6 to 3 only (R292). -/
  stat_select : s.io.statSel &&& 0x87 = 0
  /-- The line counter (R42, R297). -/
  line : s.ppu.ly < 144 + s.cfg.vblankLines
  /-- VBlank is the mode of the lines from 144 on (R297). -/
  vblank : s.ppu.mode = .vBlank ↔ 144 ≤ s.ppu.ly
  /-- Between steps the accumulator is below the mode's threshold (R299). -/
  settled : s.ppu.acc < s.ppu.mode.threshold
  /-- At most ten sprites (R44). -/
  sprites : s.ppu.selected.length ≤ 10
  /-- They come from the 40 entries of OAM, in ascending order (R44, R304). -/
  sprite_index : (s.ppu.selected.map Sprite.index).Pairwise (· < ·) ∧ ∀ sp ∈ s.ppu.selected, sp.index < 40
  /-- The framebuffer is 144 rows of 160 shades (R46). -/
  frame : s.ppu.fb.length = 144 ∧ ∀ row ∈ s.ppu.fb, row.length = 160
  /-- The tile caches hold 256 tiles each (R45). -/
  bg_tiles : s.ppu.bgTiles.length = 256 ∧ ∀ t ∈ s.ppu.bgTiles, Tile.shaped t
  obj_tiles : s.ppu.objTiles.length = 256 ∧ ∀ t ∈ s.ppu.objTiles, Tile.shaped t
  /-- A fatal condition has ended the run (R349). -/
  fatal_ends : s.fatal.isSome = true → s.stopFlag = true
  /-- The fatal report is the fatal record (R349, R351). -/
  reported : s.report.isSome = true → s.report = s.fatal
  /-- A frame is ready only with the V-Blank request made (R312). -/
  frame_request : s.frameReady = true → bitOf s.iflag 0 = true
  /-- The overlay is mapped only if there is a boot image (R39, R52). -/
  overlay : s.bootActive = true → s.cfg.bootImage.isSome = true
  /-- With the display disabled the PPU is held at the start of line 0 (R299). -/
  display_off : bitOf s.io.lcdc 7 = false →
    s.ppu.acc = 0 ∧ s.ppu.ly = 0 ∧ s.ppu.mode = .oamScan ∧ s.ppu.selected = []

end Sys2Proof.Machine
end

