-- ==== Sys2Proof/Certificates/Slice0/Obligations.lean ====
section
/-!
DEFINITION. The statements for the provers, in the order of OBLIGATIONS.json. The result statements give an
instruction's bytes by the fields of spec/30_encoding.md and the WHOLE next state, so they are its completion and its
frame at once: what the equation does not name is as it was. `pc` in the state an instruction runs in is already past
its bytes (entry 10); `Obligations.StepRunsDecodedInstruction` says how a step comes to that state.
-/

section
open Sys2Proof Sys2Proof.Machine

/-! ## Instructions -/

/-- R130, R131: the 49 register moves and the 7 register loads of an immediate. -/
def Obligations.RegisterLoads : Prop :=
  ∀ (s : State) (dst src : Reg8) (n : Byte),
    encode (.ldRegReg dst src) = [opcodeByte 1 dst.code src.code] ∧
    exec (.ldRegReg dst src) s = .next { s.setReg dst (s.reg src) with cycles := 4 } ∧
    encode (.ldRegImm dst n) = [opcodeByte 0 dst.code 6, n] ∧
    exec (.ldRegImm dst n) s = .next { s.setReg dst n with cycles := 8 }

/-- R132, R135, R136, R139, R141, R143: the loads of a byte of memory. -/
def Obligations.LoadsFromMemory : Prop :=
  ∀ (s : State) (dst : Reg8) (n : Byte) (nn : Word),
    let loads := fun (i : Instr) (bytes : List Byte) (r : Reg8) (addr : Word) (k : Nat) =>
      encode i = bytes ∧ exec i s = .next { s.setReg r (s.read8 addr) with cycles := k }
    loads (.ldRegAtHl dst) [opcodeByte 1 dst.code 6] dst (pair s.regs.h s.regs.l) 8 ∧
    loads .ldAAtBc [0x0A] .a (pair s.regs.b s.regs.c) 8 ∧
    loads .ldAAtDe [0x1A] .a (pair s.regs.d s.regs.e) 8 ∧
    loads (.ldAAtNn nn) [0xFA, lo8 nn, hi8 nn] .a nn 16 ∧
    loads .ldhAAtC [0xF2] .a (0xFF00 + zext16 s.regs.c) 8 ∧
    loads (.ldhAAtN n) [0xF0, n] .a (0xFF00 + zext16 n) 12

/-- R133, R134, R137, R138, R140, R142, R144: the stores of a byte. What a store leaves unchanged is
`Obligations.StoresLeaveOtherBytes`. -/
def Obligations.StoresToMemory : Prop :=
  ∀ (s : State) (src : Reg8) (n : Byte) (nn : Word),
    let stores := fun (i : Instr) (bytes : List Byte) (addr : Word) (v : Byte) (k : Nat) =>
      encode i = bytes ∧ exec i s = .next { s.write8 addr v with cycles := k }
    stores (.ldAtHlReg src) [opcodeByte 1 6 src.code] (pair s.regs.h s.regs.l) (s.reg src) 8 ∧
    stores (.ldAtHlN n) [0x36, n] (pair s.regs.h s.regs.l) n 12 ∧
    stores .ldAtBcA [0x02] (pair s.regs.b s.regs.c) s.regs.a 8 ∧
    stores .ldAtDeA [0x12] (pair s.regs.d s.regs.e) s.regs.a 8 ∧
    stores (.ldAtNnA nn) [0xEA, lo8 nn, hi8 nn] nn s.regs.a 16 ∧
    stores .ldhAtCA [0xE2] (0xFF00 + zext16 s.regs.c) s.regs.a 8 ∧
    stores (.ldhAtNA n) [0xE0, n] (0xFF00 + zext16 n) s.regs.a 12

/-- R145 to R148: the access uses `HL` before it moves. -/
def Obligations.LoadsThatStepHl : Prop :=
  ∀ s : State,
    let hl := pair s.regs.h s.regs.l
    let down := hl - 1
    let up := hl + 1
    (encode .ldAAtHlDec = [0x3A] ∧ exec .ldAAtHlDec s =
      .next { s with regs.a := s.read8 hl, regs.h := hi8 down, regs.l := lo8 down, cycles := 8 }) ∧
    (encode .ldAtHlDecA = [0x32] ∧ exec .ldAtHlDecA s =
      .next { s.write8 hl s.regs.a with regs.h := hi8 down, regs.l := lo8 down, cycles := 8 }) ∧
    (encode .ldAAtHlInc = [0x2A] ∧ exec .ldAAtHlInc s =
      .next { s with regs.a := s.read8 hl, regs.h := hi8 up, regs.l := lo8 up, cycles := 8 }) ∧
    (encode .ldAtHlIncA = [0x22] ∧ exec .ldAtHlIncA s =
      .next { s.write8 hl s.regs.a with regs.h := hi8 up, regs.l := lo8 up, cycles := 8 })

/-- R160 to R163: the 16-bit loads that are not on the stack. The flags of `LD HL,SP+e` are the carries of the
unsigned addition of the low bytes. -/
def Obligations.WordLoads : Prop :=
  ∀ (s : State) (p : Reg16) (nn : Word) (e : Byte),
    let sum := s.regs.sp + sext16 e
    (encode (.ldPairImm p nn) = [opcodeByte 0 (2 * p.code) 1, lo8 nn, hi8 nn] ∧
      exec (.ldPairImm p nn) s = .next { s.setRr p nn with cycles := 12 }) ∧
    (encode (.ldAtNnSp nn) = [0x08, lo8 nn, hi8 nn] ∧
      exec (.ldAtNnSp nn) s =
        .next { (s.write8 nn (lo8 s.regs.sp)).write8 (nn + 1) (hi8 s.regs.sp) with cycles := 20 }) ∧
    (encode .ldSpHl = [0xF9] ∧
      exec .ldSpHl s = .next { s with regs.sp := pair s.regs.h s.regs.l, cycles := 8 }) ∧
    (encode (.ldHlSpDisp e) = [0xF8, e] ∧
      exec (.ldHlSpDisp e) s = .next { s with
        regs.h := hi8 sum
        regs.l := lo8 sum
        regs.flags :=
          { z := false, n := false
            h := decide (s.regs.sp.toNat % 16 + e.toNat % 16 > 0x0F)
            c := decide (s.regs.sp.toNat % 256 + e.toNat > 0xFF) }
        cycles := 12 })

/-- R164 to R167: `PUSH` and `POP`. The word is stored low byte first at the decremented `SP`. -/
def Obligations.PushAndPop : Prop :=
  ∀ (s : State) (q : StackPair),
    let sp := s.regs.sp - 2
    (encode (.push q) = [opcodeByte 3 (2 * q.code) 5] ∧
      exec (.push q) s = .next
        { (({ s with regs.sp := sp } : State).write8 sp (lo8 (s.qq q))).write8 (sp + 1) (hi8 (s.qq q)) with
          cycles := 16 }) ∧
    (encode (.pop q) = [opcodeByte 3 (2 * q.code) 1] ∧
      exec (.pop q) s = .next
        { ({ s with regs.sp := s.regs.sp + 2 } : State).setQq q
            (pair (s.read8 (s.regs.sp + 1)) (s.read8 s.regs.sp)) with
          cycles := 12 })

/-- R170 to R175 with R202: `ADD` and `ADC` in their three operand forms. -/
def Obligations.AdditionResults : Prop :=
  ∀ (s : State) (r : Reg8) (n : Byte),
    let a := s.regs.a
    let hl := pair s.regs.h s.regs.l
    let sum := fun (v : Byte) (c k : Nat) =>
      let total := a.toNat + v.toNat + c
      (.next { s with
        regs.a := BitVec.ofNat 8 total
        regs.flags :=
          { z := decide (total % 256 = 0), n := false
            h := decide (a.toNat % 16 + v.toNat % 16 + c > 0x0F), c := decide (total > 0xFF) }
        cycles := k } : Result)
    let cf := if s.regs.flags.c then 1 else 0
    (encode (.aluReg .add r) = [opcodeByte 2 0 r.code] ∧ exec (.aluReg .add r) s = sum (s.reg r) 0 4) ∧
    (encode (.aluAtHl .add) = [0x86] ∧ exec (.aluAtHl .add) s = sum (s.read8 hl) 0 8) ∧
    (encode (.aluImm .add n) = [0xC6, n] ∧ exec (.aluImm .add n) s = sum n 0 8) ∧
    (encode (.aluReg .adc r) = [opcodeByte 2 1 r.code] ∧ exec (.aluReg .adc r) s = sum (s.reg r) cf 4) ∧
    (encode (.aluAtHl .adc) = [0x8E] ∧ exec (.aluAtHl .adc) s = sum (s.read8 hl) cf 8) ∧
    (encode (.aluImm .adc n) = [0xCE, n] ∧ exec (.aluImm .adc n) s = sum n cf 8)

/-- R176 to R181, R191 to R193 with R203: `SUB`, `SBC` and `CP` in their three operand forms. The difference is taken
on the integers. -/
def Obligations.SubtractionResults : Prop :=
  ∀ (s : State) (r : Reg8) (n : Byte),
    let a := s.regs.a
    let hl := pair s.regs.h s.regs.l
    let flags := fun (v : Byte) (c : Nat) =>
      ({ z := decide (((a.toNat : Int) - v.toNat - c) % 256 = 0), n := true
         h := decide (a.toNat % 16 < v.toNat % 16 + c), c := decide (a.toNat < v.toNat + c) } : Flags)
    let difference := fun (v : Byte) (c k : Nat) =>
      (.next { s with
        regs.a := BitVec.ofInt 8 ((a.toNat : Int) - v.toNat - c), regs.flags := flags v c, cycles := k } : Result)
    let compared := fun (v : Byte) (k : Nat) =>
      (.next { s with regs.flags := flags v 0, cycles := k } : Result)
    let cf := if s.regs.flags.c then 1 else 0
    (encode (.aluReg .sub r) = [opcodeByte 2 2 r.code] ∧ exec (.aluReg .sub r) s = difference (s.reg r) 0 4) ∧
    (encode (.aluAtHl .sub) = [0x96] ∧ exec (.aluAtHl .sub) s = difference (s.read8 hl) 0 8) ∧
    (encode (.aluImm .sub n) = [0xD6, n] ∧ exec (.aluImm .sub n) s = difference n 0 8) ∧
    (encode (.aluReg .sbc r) = [opcodeByte 2 3 r.code] ∧ exec (.aluReg .sbc r) s = difference (s.reg r) cf 4) ∧
    (encode (.aluAtHl .sbc) = [0x9E] ∧ exec (.aluAtHl .sbc) s = difference (s.read8 hl) cf 8) ∧
    (encode (.aluImm .sbc n) = [0xDE, n] ∧ exec (.aluImm .sbc n) s = difference n cf 8) ∧
    (encode (.aluReg .cp r) = [opcodeByte 2 7 r.code] ∧ exec (.aluReg .cp r) s = compared (s.reg r) 4) ∧
    (encode (.aluAtHl .cp) = [0xBE] ∧ exec (.aluAtHl .cp) s = compared (s.read8 hl) 8) ∧
    (encode (.aluImm .cp n) = [0xFE, n] ∧ exec (.aluImm .cp n) s = compared n 8)

/-- R182 to R190 with R204: `AND`, `XOR` and `OR` in their three operand forms. -/
def Obligations.LogicResults : Prop :=
  ∀ (s : State) (r : Reg8) (n : Byte),
    let a := s.regs.a
    let hl := pair s.regs.h s.regs.l
    let logic := fun (v : Byte) (h : Bool) (k : Nat) =>
      (.next { s with
        regs.a := v, regs.flags := { z := decide (v = 0), n := false, h := h, c := false }, cycles := k } : Result)
    (encode (.aluReg .and r) = [opcodeByte 2 4 r.code] ∧ exec (.aluReg .and r) s = logic (a &&& s.reg r) true 4) ∧
    (encode (.aluAtHl .and) = [0xA6] ∧ exec (.aluAtHl .and) s = logic (a &&& s.read8 hl) true 8) ∧
    (encode (.aluImm .and n) = [0xE6, n] ∧ exec (.aluImm .and n) s = logic (a &&& n) true 8) ∧
    (encode (.aluReg .xor r) = [opcodeByte 2 5 r.code] ∧ exec (.aluReg .xor r) s = logic (a ^^^ s.reg r) false 4) ∧
    (encode (.aluAtHl .xor) = [0xAE] ∧ exec (.aluAtHl .xor) s = logic (a ^^^ s.read8 hl) false 8) ∧
    (encode (.aluImm .xor n) = [0xEE, n] ∧ exec (.aluImm .xor n) s = logic (a ^^^ n) false 8) ∧
    (encode (.aluReg .or r) = [opcodeByte 2 6 r.code] ∧ exec (.aluReg .or r) s = logic (a ||| s.reg r) false 4) ∧
    (encode (.aluAtHl .or) = [0xB6] ∧ exec (.aluAtHl .or) s = logic (a ||| s.read8 hl) false 8) ∧
    (encode (.aluImm .or n) = [0xF6, n] ∧ exec (.aluImm .or n) s = logic (a ||| n) false 8)

/-- R194 to R197: `INC` and `DEC` of a register and of the byte at `HL`; `Cf` is kept. -/
def Obligations.IncrementResults : Prop :=
  ∀ (s : State) (r : Reg8),
    let hl := pair s.regs.h s.regs.l
    let up := fun (v : Byte) =>
      ({ z := decide ((v.toNat + 1) % 256 = 0), n := false, h := decide (v.toNat % 16 = 15)
         c := s.regs.flags.c } : Flags)
    let down := fun (v : Byte) =>
      ({ z := decide (v.toNat = 1), n := true, h := decide (v.toNat % 16 = 0), c := s.regs.flags.c } : Flags)
    (encode (.incReg r) = [opcodeByte 0 r.code 4] ∧
      exec (.incReg r) s = .next { s.setReg r (s.reg r + 1) with regs.flags := up (s.reg r), cycles := 4 }) ∧
    (encode .incAtHl = [0x34] ∧
      exec .incAtHl s = .next { s.write8 hl (s.read8 hl + 1) with regs.flags := up (s.read8 hl), cycles := 12 }) ∧
    (encode (.decReg r) = [opcodeByte 0 r.code 5] ∧
      exec (.decReg r) s = .next { s.setReg r (s.reg r - 1) with regs.flags := down (s.reg r), cycles := 4 }) ∧
    (encode .decAtHl = [0x35] ∧
      exec .decAtHl s = .next { s.write8 hl (s.read8 hl - 1) with regs.flags := down (s.read8 hl), cycles := 12 })

/-- R198 to R201: `DAA`, `CPL`, `SCF`, `CCF`. `DAA` is stated as the rule's two branches, on integers. -/
def Obligations.AccumulatorAdjustments : Prop :=
  ∀ s : State,
    let a := s.regs.a
    let f := s.regs.flags
    let adjusted := fun (r : Int) (carry : Bool) =>
      (.next { s with
        regs.a := BitVec.ofInt 8 r
        regs.flags := { z := decide (r % 256 = 0), n := f.n, h := false, c := carry }
        cycles := 4 } : Result)
    let lowPart : Int := if f.h = true ∨ (f.n = false ∧ a.toNat % 16 > 9) then 6 else 0
    let highPart : Int := if f.c = true ∨ (f.n = false ∧ a.toNat > 0x99) then 0x60 else 0
    (encode .daa = [0x27] ∧
      (f.n = false → exec .daa s =
        adjusted ((a.toNat : Int) + (lowPart + highPart)) (decide (f.c = true ∨ a.toNat > 0x99))) ∧
      (f.n = true → exec .daa s = adjusted ((a.toNat : Int) - (lowPart + highPart)) f.c)) ∧
    (encode .cpl = [0x2F] ∧
      exec .cpl s = .next { s with regs.a := a ^^^ 0xFF, regs.flags.n := true, regs.flags.h := true, cycles := 4 }) ∧
    (encode .scf = [0x37] ∧
      exec .scf s = .next { s with
        regs.flags.n := false, regs.flags.h := false, regs.flags.c := true, cycles := 4 }) ∧
    (encode .ccf = [0x3F] ∧
      exec .ccf s = .next { s with
        regs.flags.n := false, regs.flags.h := false, regs.flags.c := !f.c, cycles := 4 })

/-- R210 to R213: 16-bit arithmetic. -/
def Obligations.WordArithmetic : Prop :=
  ∀ (s : State) (p : Reg16) (e : Byte),
    let hl := pair s.regs.h s.regs.l
    let v := s.rr p
    let sum := BitVec.ofNat 16 (hl.toNat + v.toNat)
    (encode (.addHlPair p) = [opcodeByte 0 (2 * p.code + 1) 1] ∧
      exec (.addHlPair p) s = .next { s with
        regs.h := hi8 sum
        regs.l := lo8 sum
        regs.flags :=
          { z := s.regs.flags.z, n := false
            h := decide (hl.toNat % 4096 + v.toNat % 4096 > 0x0FFF), c := decide (hl.toNat + v.toNat > 0xFFFF) }
        cycles := 8 }) ∧
    (encode (.incPair p) = [opcodeByte 0 (2 * p.code) 3] ∧
      exec (.incPair p) s = .next { s.setRr p (v + 1) with cycles := 8 }) ∧
    (encode (.decPair p) = [opcodeByte 0 (2 * p.code + 1) 3] ∧
      exec (.decPair p) s = .next { s.setRr p (v - 1) with cycles := 8 }) ∧
    (encode (.addSpDisp e) = [0xE8, e] ∧
      exec (.addSpDisp e) s = .next { s with
        regs.sp := s.regs.sp + sext16 e
        regs.flags :=
          { z := false, n := false
            h := decide (s.regs.sp.toNat % 16 + e.toNat % 16 > 0x0F)
            c := decide (s.regs.sp.toNat % 256 + e.toNat > 0xFF) }
        cycles := 16 })

/-- R220 to R231: the rotates of the accumulator, which clear `Zf`, and the four prefixed rotates, which set it from
the result. Results are integer arithmetic on the operand `n` and the carry `c`; the second component is the new
`Cf`. -/
def Obligations.RotateResults : Prop :=
  ∀ (s : State) (r : Reg8),
    let hl := pair s.regs.h s.regs.l
    let c := if s.regs.flags.c then 1 else 0
    let left := fun (bit0 : Nat → Nat) (v : Byte) => (2 * v.toNat % 256 + bit0 v.toNat, decide (v.toNat ≥ 128))
    let right := fun (bit7 : Nat → Nat) (v : Byte) => (v.toNat / 2 + 128 * bit7 v.toNat, decide (v.toNat % 2 = 1))
    let accumulator := fun (rotate : Byte → Nat × Bool) =>
      (.next { s with
        regs.a := BitVec.ofNat 8 (rotate s.regs.a).1
        regs.flags := { z := false, n := false, h := false, c := (rotate s.regs.a).2 }
        cycles := 4 } : Result)
    let flags := fun (rotate : Byte → Nat × Bool) (v : Byte) =>
      ({ z := decide ((rotate v).1 = 0), n := false, h := false, c := (rotate v).2 } : Flags)
    let prefixed := fun (op : RotOp) (y : Nat) (rotate : Byte → Nat × Bool) =>
      (encode (.rotReg op r) = [0xCB, opcodeByte 0 y r.code] ∧
        exec (.rotReg op r) s = .next { s.setReg r (BitVec.ofNat 8 (rotate (s.reg r)).1) with
          regs.flags := flags rotate (s.reg r), cycles := 8 }) ∧
      (encode (.rotAtHl op) = [0xCB, opcodeByte 0 y 6] ∧
        exec (.rotAtHl op) s = .next { s.write8 hl (BitVec.ofNat 8 (rotate (s.read8 hl)).1) with
          regs.flags := flags rotate (s.read8 hl), cycles := 16 })
    let rlc := left fun n => n / 128
    let rl := left fun _ => c
    let rrc := right fun n => n % 2
    let rr := right fun _ => c
    (encode .rlca = [0x07] ∧ exec .rlca s = accumulator rlc) ∧
    (encode .rla = [0x17] ∧ exec .rla s = accumulator rl) ∧
    (encode .rrca = [0x0F] ∧ exec .rrca s = accumulator rrc) ∧
    (encode .rra = [0x1F] ∧ exec .rra s = accumulator rr) ∧
    prefixed .rlc 0 rlc ∧ prefixed .rrc 1 rrc ∧ prefixed .rl 2 rl ∧ prefixed .rr 3 rr

/-- R232 to R239: the shifts and `SWAP`, as `Obligations.RotateResults` states the rotates. -/
def Obligations.ShiftResults : Prop :=
  ∀ (s : State) (r : Reg8),
    let hl := pair s.regs.h s.regs.l
    let flags := fun (shift : Nat → Nat × Bool) (v : Byte) =>
      ({ z := decide ((shift v.toNat).1 = 0), n := false, h := false, c := (shift v.toNat).2 } : Flags)
    let shifts := fun (op : RotOp) (y : Nat) (shift : Nat → Nat × Bool) =>
      (encode (.rotReg op r) = [0xCB, opcodeByte 0 y r.code] ∧
        exec (.rotReg op r) s = .next { s.setReg r (BitVec.ofNat 8 (shift (s.reg r).toNat).1) with
          regs.flags := flags shift (s.reg r), cycles := 8 }) ∧
      (encode (.rotAtHl op) = [0xCB, opcodeByte 0 y 6] ∧
        exec (.rotAtHl op) s = .next { s.write8 hl (BitVec.ofNat 8 (shift (s.read8 hl).toNat).1) with
          regs.flags := flags shift (s.read8 hl), cycles := 16 })
    shifts .sla 4 (fun n => (2 * n % 256, decide (n ≥ 128))) ∧
    shifts .sra 5 (fun n => (n / 2 + 128 * (n / 128), decide (n % 2 = 1))) ∧
    shifts .swap 6 (fun n => (16 * n % 256 + n / 16, false)) ∧
    shifts .srl 7 (fun n => (n / 2, decide (n % 2 = 1)))

/-- R240 to R245: `BIT`, `RES` and `SET`, bit by bit: `RES` and `SET` change bit `b` of the operand and no other bit,
and `BIT` changes no register and no byte. -/
def Obligations.BitResults : Prop :=
  ∀ (s : State) (b : Fin 8) (r : Reg8),
    let hl := pair s.regs.h s.regs.l
    let withBit := fun (v w : Byte) (x : Bool) =>
      ∀ j, j < 8 → bitOf w j = if j = b.val then x else bitOf v j
    let tested := fun (v : Byte) (k : Nat) =>
      (.next { s with
        regs.flags := { z := !bitOf v b.val, n := false, h := true, c := s.regs.flags.c }, cycles := k } : Result)
    (encode (.bitReg b r) = [0xCB, opcodeByte 1 b.val r.code] ∧ exec (.bitReg b r) s = tested (s.reg r) 8) ∧
    (encode (.bitAtHl b) = [0xCB, opcodeByte 1 b.val 6] ∧ exec (.bitAtHl b) s = tested (s.read8 hl) 12) ∧
    (encode (.resReg b r) = [0xCB, opcodeByte 2 b.val r.code] ∧
      ∃ w, withBit (s.reg r) w false ∧ exec (.resReg b r) s = .next { s.setReg r w with cycles := 8 }) ∧
    (encode (.resAtHl b) = [0xCB, opcodeByte 2 b.val 6] ∧
      ∃ w, withBit (s.read8 hl) w false ∧ exec (.resAtHl b) s = .next { s.write8 hl w with cycles := 16 }) ∧
    (encode (.setReg b r) = [0xCB, opcodeByte 3 b.val r.code] ∧
      ∃ w, withBit (s.reg r) w true ∧ exec (.setReg b r) s = .next { s.setReg r w with cycles := 8 }) ∧
    (encode (.setAtHl b) = [0xCB, opcodeByte 3 b.val 6] ∧
      ∃ w, withBit (s.read8 hl) w true ∧ exec (.setAtHl b) s = .next { s.write8 hl w with cycles := 16 })

/-- R260 to R264: the jumps. A jump not taken changes nothing but the cost. -/
def Obligations.JumpResults : Prop :=
  ∀ (s : State) (cc : Cond) (nn : Word) (e : Byte),
    let holds := match cc with
      | .nz => s.regs.flags.z = false
      | .z => s.regs.flags.z = true
      | .nc => s.regs.flags.c = false
      | .c => s.regs.flags.c = true
    let goes := fun (target : Word) (k : Nat) => (.next { s with regs.pc := target, cycles := k } : Result)
    let stays := fun (k : Nat) => (.next { s with cycles := k } : Result)
    let target := s.regs.pc + sext16 e
    (encode (.jpNn nn) = [0xC3, lo8 nn, hi8 nn] ∧ exec (.jpNn nn) s = goes nn 16) ∧
    (encode (.jpCond cc nn) = [opcodeByte 3 cc.code 2, lo8 nn, hi8 nn] ∧
      (holds → exec (.jpCond cc nn) s = goes nn 16) ∧ (¬ holds → exec (.jpCond cc nn) s = stays 12)) ∧
    (encode .jpHl = [0xE9] ∧ exec .jpHl s = goes (pair s.regs.h s.regs.l) 4) ∧
    (encode (.jrDisp e) = [0x18, e] ∧ exec (.jrDisp e) s = goes target 12) ∧
    (encode (.jrCond cc e) = [opcodeByte 0 (cc.code + 4) 0, e] ∧
      (holds → exec (.jrCond cc e) s = goes target 12) ∧ (¬ holds → exec (.jrCond cc e) s = stays 8))

/-- R265 to R270: the calls, returns and restarts. -/
def Obligations.CallAndReturnResults : Prop :=
  ∀ (s : State) (cc : Cond) (nn : Word) (y : Fin 8),
    let holds := match cc with
      | .nz => s.regs.flags.z = false
      | .z => s.regs.flags.z = true
      | .nc => s.regs.flags.c = false
      | .c => s.regs.flags.c = true
    let sp := s.regs.sp - 2
    let calls := fun (target : Word) (k : Nat) =>
      (.next { (({ s with regs.sp := sp } : State).write8 sp (lo8 s.regs.pc)).write8 (sp + 1) (hi8 s.regs.pc) with
        regs.pc := target, cycles := k } : Result)
    let popped : State := { s with
      regs.pc := pair (s.read8 (s.regs.sp + 1)) (s.read8 s.regs.sp), regs.sp := s.regs.sp + 2 }
    let stays := fun (k : Nat) => (.next { s with cycles := k } : Result)
    (encode (.callNn nn) = [0xCD, lo8 nn, hi8 nn] ∧ exec (.callNn nn) s = calls nn 24) ∧
    (encode (.callCond cc nn) = [opcodeByte 3 cc.code 4, lo8 nn, hi8 nn] ∧
      (holds → exec (.callCond cc nn) s = calls nn 24) ∧ (¬ holds → exec (.callCond cc nn) s = stays 12)) ∧
    (encode .ret = [0xC9] ∧ exec .ret s = .next { popped with cycles := 16 }) ∧
    (encode (.retCond cc) = [opcodeByte 3 cc.code 0] ∧
      (holds → exec (.retCond cc) s = .next { popped with cycles := 20 }) ∧
      (¬ holds → exec (.retCond cc) s = stays 8)) ∧
    (encode (.rst y) = [opcodeByte 3 y.val 7] ∧ exec (.rst y) s = calls (BitVec.ofNat 16 (8 * y.val)) 16) ∧
    (encode .reti = [0xD9] ∧ exec .reti s = .next { popped with ime := true, cycles := 16 })

/-- R280 to R284: `NOP`, `HALT`, `STOP`, `DI`, `EI`. -/
def Obligations.SystemResults : Prop :=
  ∀ (s : State) (n : Byte),
    (encode .nop = [0x00] ∧ exec .nop s = .next { s with cycles := 4 }) ∧
    (encode .halt = [0x76] ∧ exec .halt s = .next { s with runState := .halted, cycles := 4 }) ∧
    (encode (.stop n) = [0x10, n] ∧ exec (.stop n) s = .next { s with runState := .stopped, cycles := 4 }) ∧
    (encode .di = [0xF3] ∧ exec .di s = .next { s with ime := false, cycles := 4 }) ∧
    (encode .ei = [0xFB] ∧ exec .ei s = .next { s with ime := true, cycles := 4 })

/-- R115: the byte after the prefix selects the instruction by its fields. A second prefix byte is `SET 1,E` by them, as
R117 and R244 say, though a sentence of R285 calls it `SWAP E` (entry 23). The second clause is the model's choice (R285,
entry 11, DEDUCED): the prefix row standing alone, which the decoder never answers, fetches that byte and runs the
instruction it selects, which answers a next state. -/
def Obligations.PrefixSelectsByFields : Prop :=
  (∀ op2 : Byte,
    let x := op2.toNat / 64
    let y : Fin 8 := ⟨op2.toNat / 8 % 8, Nat.mod_lt _ (by decide)⟩
    ∀ rest, decode (0xCB :: op2 :: rest) = .ok (secondary op2, rest) ∧
      secondary op2 =
        match Reg8.ofCode (op2.toNat % 8), x with
        | some r, 0 => .rotReg (RotOp.ofCode y.val) r
        | some r, 1 => .bitReg y r
        | some r, 2 => .resReg y r
        | some r, _ => .setReg y r
        | none, 0 => .rotAtHl (RotOp.ofCode y.val)
        | none, 1 => .bitAtHl y
        | none, 2 => .resAtHl y
        | none, _ => .setAtHl y) ∧
  ∀ s : State, ∃ t,
    exec (secondary (s.read8 s.regs.pc)) { s with regs.pc := s.regs.pc + 1 } = .next t ∧ exec .prefixCb s = .next t

/-- R286, R380: an illegal byte records the fatal condition with the address it was fetched from, and changes nothing
else. `pc` is past the byte. -/
def Obligations.IllegalByteIsFatal : Prop :=
  ∀ (s : State) (op : Byte), op ∈ illegalBytes → s.fatal = none →
    encode (.illegal op) = [op] ∧
    exec (.illegal op) s = .next { s with
      fatal := some { kind := .unknownOpcode, address := s.regs.pc - 1, opcode := op }, cycles := 0 }

/-! ## Encoding -/

/-- Decoding the bytes of a well-formed instruction gives it back, whatever bytes follow. -/
def Obligations.DecodeInvertsEncode : Prop :=
  ∀ (i : Instr) (rest : List Byte), i.wellFormed = true → decode (encode i ++ rest) = .ok (i, rest)

/-- The other direction: what decodes is well-formed, and is exactly the bytes its encoding says. -/
def Obligations.EncodeInvertsDecode : Prop :=
  ∀ (bytes rest : List Byte) (i : Instr), decode bytes = .ok (i, rest) →
    i.wellFormed = true ∧ bytes = encode i ++ rest

/-- R101, R118, R120: three bytes always decode; the length is 1, 2 or 3 and is known from the first byte; and exactly
the eleven bytes of R118 are illegal. -/
def Obligations.DecodingIsTotal : Prop :=
  ∀ op b1 b2 : Byte,
    ∃ i, decode [op, b1, b2] = .ok (i, [op, b1, b2].drop (encode i).length) ∧
      (encode i).length ∈ [1, 2, 3] ∧ (op = 0xCB → (encode i).length = 2) ∧
      (∀ c1 c2 j rest, decode [op, c1, c2] = .ok (j, rest) → (encode j).length = (encode i).length) ∧
      (i = .illegal op ↔
        op ∈ [0xD3, 0xDB, 0xDD, 0xE3, 0xE4, 0xEB, 0xEC, 0xED, 0xF4, 0xFC, 0xFD])

/-- Words written out bit by bit from the encodings of spec/30_encoding.md and the instruction rules. How a word's bytes
are laid out in its bits is the model's reading of R121 (entry 13, DEDUCED): the first byte lowest, but a prefixed word
has the prefix in its bits 15..8. -/
def Obligations.WrittenOutWordsDecode : Prop :=
  decodeTableWord 8 0b01000001 = some .ldBC ∧
  decodeTableWord 16 0b1010101100111110 = some (.ldAN 0xAB) ∧
  decodeTableWord 24 0b000100100011010000100001 = some (.ldHlNn 0x1234) ∧
  decodeTableWord 8 0b10000110 = some .addAAtHl ∧
  decodeTableWord 8 0b00001001 = some .addHlBc ∧
  decodeTableWord 8 0b00010111 = some .rla ∧
  decodeTableWord 16 0b1100101101111110 = some .bit7AtHl ∧
  decodeTableWord 16 0b1111111000011000 = some (.jrDisp 0xFE) ∧
  decodeTableWord 8 0b01110110 = some .halt ∧
  decodeTableWord 8 0b11011101 = some (.illegal 0xDD)

/-! ## The step -/

/-- When the Processor will fetch, a step is the decoded instruction run with `pc` past its bytes, then the PPU's tick
with the cycles it returned, then the end of the iteration. -/
def Obligations.StepRunsDecodedInstruction : Prop :=
  ∀ (s : State) (i : Instr) (rest : List Byte),
    let s0 := beginIteration s
    let pc := s0.regs.pc
    s.stopFlag = false → s0.fatal = none → s0.runState = .running → (s0.ime = false ∨ s0.pending = 0) →
    decode [s0.read8 pc, s0.read8 (pc + 1), s0.read8 (pc + 2)] = .ok (i, rest) →
    ∃ t, exec i { s0 with regs.pc := pc + BitVec.ofNat 16 (encode i).length } = .next t ∧
      step s = .next (endIteration s.fatal (ppuTick t.cycles t))

/-- R346, R348, R352: the loop's body is total: a step answers a next state as long as the run has not ended, and no
instruction stops; after the run has ended there is no step. -/
def Obligations.StepIsTotal : Prop :=
  (∀ (i : Instr) (s : State), ∃ t, exec i s = .next t) ∧
  (∀ s : State, s.stopFlag = false → ∃ t, step s = .next t) ∧
  (∀ s : State, s.stopFlag = true → step s = .fault .runEnded)

/-- R364, R365, R367, R368: the tick that services an interrupt. `k` is the smallest pending source. -/
def Obligations.InterruptService : Prop :=
  ∀ (s : State) (k : Nat), k < 5 → s.fatal = none → s.runState = .running → s.ime = true →
    bitOf (s.ie &&& s.iflag) k = true → (∀ j, j < k → bitOf (s.ie &&& s.iflag) j = false) →
    let sp := s.regs.sp - 2
    processorTick s = .next
      { (({ s with iflag := s.iflag &&& ~~~(BitVec.ofNat 8 (2 ^ k)), ime := false, regs.sp := sp } : State).write8
          sp (lo8 s.regs.pc)).write8 (sp + 1) (hi8 s.regs.pc) with
        regs.pc := BitVec.ofNat 16 (0x0040 + 8 * k), cycles := s.cfg.intServiceCycles }

/-- R341 to R344: the ticks that do nothing, and the wake-ups, which continue as a running tick. -/
def Obligations.IdleAndWakingTicks : Prop :=
  ∀ s : State,
    (s.fatal ≠ none → processorTick s = .next { s with cycles := 0 }) ∧
    (s.fatal = none → s.runState = .stopped → s.input.anyPressed = false →
      processorTick s = .next { s with cycles := 0 }) ∧
    (s.fatal = none → s.runState = .halted → s.ie &&& s.iflag &&& 0x1F = 0 →
      processorTick s = .next { s with cycles := 4 }) ∧
    (s.fatal = none → s.runState = .stopped → s.input.anyPressed = true →
      processorTick s = processorTick { s with runState := .running }) ∧
    (s.fatal = none → s.runState = .halted → s.ie &&& s.iflag &&& 0x1F ≠ 0 →
      processorTick s = processorTick { s with runState := .running })

/-- R349, R380: the iteration that writes the fatal record fetched an illegal byte; it reports the record, ends the
run, offers no frame and draws nothing. -/
def Obligations.FatalIterationEndsRun : Prop :=
  ∀ (s t : State), s.Inv → s.fatal = none → step s = .next t → t.fatal ≠ none →
    (∃ op ∈ illegalBytes, (beginIteration s).read8 s.regs.pc = op ∧
      t.fatal = some { kind := .unknownOpcode, address := s.regs.pc, opcode := op }) ∧
    t.report = t.fatal ∧ t.stopFlag = true ∧ t.frameReady = false ∧ t.cycles = 0 ∧
    t.ppu = s.ppu ∧ t.mem = s.mem ∧ t.regs = { s.regs with pc := s.regs.pc + 1 }

/-- R37, R47, R348: the fatal record is never cleared or overwritten, and the stop flag is set exactly by a stop
request or a new fatal record. -/
def Obligations.RecordKeptAndStopFlag : Prop :=
  ∀ (s t : State), step s = .next t →
    (∀ r, s.fatal = some r → t.fatal = some r) ∧
    (t.stopFlag = true ↔ t.input.stopRequested = true ∨ (s.fatal = none ∧ t.fatal ≠ none)) ∧
    (t.report ≠ none ↔ s.fatal = none ∧ t.fatal ≠ none)

/-- R35, R362: `IME` changes only by `DI`, `EI`, `RETI`, and in a step also by interrupt service, which clears it. -/
def Obligations.WritersOfIme : Prop :=
  (∀ (i : Instr) (s t : State), exec i s = .next t → t.ime ≠ s.ime → i = .di ∨ i = .ei ∨ i = .reti) ∧
  (∀ (s t : State), step s = .next t →
    let fetched := (beginIteration s).fetchDecode.1
    (s.ime = false → t.ime = true → (fetched = .ei ∨ fetched = .reti) ∧ s.fatal = none) ∧
    (s.ime = true → t.ime = false → (fetched = .di ∨ s.ie &&& s.iflag &&& 0x1F ≠ 0) ∧ s.fatal = none))

/-- R35, R374: no instruction changes `IF`; in a step a request bit is cleared only by the service of that source, one
bit per step, and only bit 0 is ever set, in a step whose PPU tick entered VBlank. -/
def Obligations.WritersOfRequests : Prop :=
  (∀ (i : Instr) (s t : State), exec i s = .next t → t.iflag = s.iflag) ∧
  (∀ (s t : State), step s = .next t →
    (∀ k, k < 8 → bitOf s.iflag k = true → bitOf t.iflag k = false →
      s.ime = true ∧ bitOf s.ie k = true ∧ t.ime = false ∧
      ∀ j, j < 8 → j ≠ k → bitOf s.iflag j = true → bitOf t.iflag j = true) ∧
    (∀ k, k < 8 → bitOf s.iflag k = false → bitOf t.iflag k = true → k = 0 ∧ t.frameReady = true))

/-- R30, R32: an instruction outside the table of R32 leaves all four flags unchanged. -/
def Obligations.FlagsWrittenOnlyAsListed : Prop :=
  ∀ (i : Instr) (s t : State), i.wellFormed = true → writesFlags i = false → exec i s = .next t →
    t.regs.flags = s.regs.flags

/-- The frame of the storing forms: outside the bytes stored, every byte reads as before, and nothing else of the
machine changes but registers. Where a stored byte is `LYC`, the compare flag of `STAT`, bit 2, may read differently (R292;
what it reads is `Obligations.JoypadAndStatus`), and nothing else. No stored byte is `DMA` or `BOOT`, the two writes with an
effect beyond the byte (R78): `Obligations.OamCopyResult` and `Obligations.OverlayRemoval` are about those. -/
def Obligations.StoresLeaveOtherBytes : Prop :=
  ∀ (i : Instr) (s t : State) (a : Word) (n : Nat),
    i.wellFormed = true → storesTo s i = some (a, n) → exec i s = .next t →
    let stored := fun (x : Word) => ∃ k, k < n ∧ x = a + BitVec.ofNat 16 k
    ¬ stored 0xFF46 → ¬ stored 0xFF50 →
    (∀ x : Word, ¬ stored x → (x = 0xFF41 → ¬ stored 0xFF45) → t.read8 x = s.read8 x) ∧
    (¬ stored 0xFF41 → ∀ b, b ≠ 2 → bitOf (t.read8 0xFF41) b = bitOf (s.read8 0xFF41) b) ∧
    t.bootActive = s.bootActive ∧ t.ppu = s.ppu ∧ t.iflag = s.iflag ∧ t.ime = s.ime ∧ t.fatal = s.fatal ∧
    t.runState = s.runState

/-- The frame of the forms that store nothing: every byte reads as before, and memory and every register behind an
address are unchanged. -/
def Obligations.OtherFormsLeaveMemory : Prop :=
  ∀ (i : Instr) (s t : State),
    i.wellFormed = true → storesTo s i = none → exec i s = .next t →
    (∀ x : Word, t.read8 x = s.read8 x) ∧ t.mem = s.mem ∧ t.io = s.io ∧ t.ie = s.ie ∧ t.bootActive = s.bootActive

/-- R340: an instruction never touches what belongs to the PPU, the host and the orchestrator, nor the parameters. -/
def Obligations.InstructionsLeaveOtherAgents : Prop :=
  ∀ (i : Instr) (s t : State), exec i s = .next t →
    t.ppu = s.ppu ∧ t.input = s.input ∧ t.hostQueue = s.hostQueue ∧ t.frameReady = s.frameReady ∧
    t.report = s.report ∧ t.stopFlag = s.stopFlag ∧ t.cfg = s.cfg

/-- R39, R48, R403: the overlay flag goes from 1 to 0 only, and no step changes a parameter. -/
def Obligations.OverlayIsOneShot : Prop :=
  ∀ (s t : State), step s = .next t →
    (s.bootActive = false → t.bootActive = false) ∧ t.cfg = s.cfg

/-! ## The PPU -/

/-- R89, R290, R340: the PPU's tick writes its own state, bit 0 of `IF` and the frame-ready signal, and nothing else;
it never clears a request. -/
def Obligations.PpuWritesOnlyItsState : Prop :=
  ∀ (s : State) (c : Nat),
    let t := ppuTick c s
    t = { s with ppu := t.ppu, iflag := t.iflag, frameReady := t.frameReady } ∧
    (t.iflag = s.iflag ∨ (t.iflag = s.iflag ||| 0x01 ∧ t.frameReady = true))

/-- R299: while the display is disabled the PPU is held at line 0; `fb` keeps its pixels (R311). -/
def Obligations.PpuHeldWhileDisabled : Prop :=
  ∀ (s : State) (c : Nat), bitOf s.io.lcdc 7 = false →
    ppuTick c s =
      { s with ppu.acc := 0, ppu.ly := 0, ppu.mode := .oamScan, ppu.selected := [] }

/-- R299, R301, R312: the loop of the PPU's tick, one transition at a time, with the display enabled. Each row of the
table of R301 at its threshold; below it, the tick only accumulates. -/
def Obligations.PpuTransitionTable : Prop :=
  ∀ (s : State) (c : Nat), bitOf s.io.lcdc 7 = true →
    let acc := s.ppu.acc + c
    let ly := s.ppu.ly
    (acc < s.ppu.mode.threshold → ppuTick c s = { s with ppu.acc := acc }) ∧
    (s.ppu.mode = .oamScan → 80 ≤ acc →
      ppuTick c s = ppuTick 0 { s with ppu.acc := acc - 80, ppu.mode := .pixelTransfer }) ∧
    (s.ppu.mode = .pixelTransfer → 172 ≤ acc →
      ppuTick c s = ppuTick 0
        (({ s with ppu.acc := acc - 172, ppu.mode := .hBlank } : State).decodeTiles.drawLine ly)) ∧
    (s.ppu.mode = .hBlank → 204 ≤ acc → ly ≠ 143 →
      ppuTick c s = ppuTick 0 { s with
        ppu.acc := acc - 204, ppu.ly := ly + 1, ppu.mode := .oamScan, ppu.selected := s.oamSelect (ly + 1) }) ∧
    (s.ppu.mode = .hBlank → 204 ≤ acc → ly = 143 →
      ppuTick c s = ppuTick 0 { s with
        ppu.acc := acc - 204, ppu.ly := 144, ppu.mode := .vBlank, iflag := s.iflag ||| 0x01, frameReady := true }) ∧
    (s.ppu.mode = .vBlank → 456 ≤ acc → ly + 1 ≠ 144 + s.cfg.vblankLines →
      ppuTick c s = ppuTick 0 { s with ppu.acc := acc - 456, ppu.ly := ly + 1 }) ∧
    (s.ppu.mode = .vBlank → 456 ≤ acc → ly + 1 = 144 + s.cfg.vblankLines →
      ppuTick c s = ppuTick 0 { s with
        ppu.acc := acc - 456, ppu.ly := 0, ppu.mode := .oamScan, ppu.selected := s.oamSelect 0 })

/-- Two ticks in a row are one tick of their sum: the PPU's picture depends on the cycles, not on how instructions cut
them up. -/
def Obligations.PpuTicksAdd : Prop :=
  ∀ (s : State) (c d : Nat), ppuTick d (ppuTick c s) = ppuTick (c + d) s

/-- R315(a): from the start of a visible line, ticks whose cycles sum to 456 make exactly one step of the line counter
and stand at the start of the next line, or of VBlank after line 143. -/
def Obligations.LineTakes456Cycles : Prop :=
  ∀ (s : State) (ticks : List Nat),
    bitOf s.io.lcdc 7 = true → s.ppu.mode = .oamScan → s.ppu.acc = 0 → s.ppu.ly < 144 → ticks.sum = 456 →
    let t := ticks.foldl (fun u c => ppuTick c u) s
    t.ppu.ly = s.ppu.ly + 1 ∧ t.ppu.acc = 0 ∧
    t.ppu.mode = (if s.ppu.ly = 143 then .vBlank else .oamScan) ∧
    t.ppu.fb[s.ppu.ly]? = (s.ppu.fb.set s.ppu.ly (s.decodeTiles.linePixels s.ppu.ly))[s.ppu.ly]? ∧
    ∀ row, row ≠ s.ppu.ly → t.ppu.fb[row]? = s.ppu.fb[row]?

/-- R315(b), (c): from the start of line 0, the ticks of one whole frame bring the line counter back to 0 and exactly
one of them raises the frame-ready signal, as the loop clears it before each. A VBlank of no lines is no parameter of
R300: by the equality test of R299 it would never end. -/
def Obligations.FrameRaisesOneFrameReady : Prop :=
  ∀ (s : State) (ticks : List Nat),
    bitOf s.io.lcdc 7 = true → s.ppu.mode = .oamScan → s.ppu.acc = 0 → s.ppu.ly = 0 → 1 ≤ s.cfg.vblankLines →
    ticks.sum = 456 * 144 + 456 * s.cfg.vblankLines →
    let run := ticks.foldl (fun (p : State × Nat) c =>
      let t := ppuTick c { p.1 with frameReady := false }
      (t, p.2 + if t.frameReady then 1 else 0)) (s, 0)
    run.1.ppu.ly = 0 ∧ run.1.ppu.acc = 0 ∧ run.1.ppu.mode = .oamScan ∧ run.2 = 1 ∧ bitOf run.1.iflag 0 = true

/-- R303, R307 to R310, R295: the pixels of a drawn line that the background or the window gives, from `vram` and the
registers: all of them when sprites are disabled, and with sprites enabled those where no selected sprite has a non-zero
colour index. The other rows of `fb` stay. -/
def Obligations.BackgroundAndWindowPixels : Prop :=
  ∀ (s : State) (L X : Nat), L < s.ppu.fb.length → X < 160 →
    let vram := fun (a : Nat) => Memory.get s.mem a
    let pixel := fun (highMap : Bool) (py px : Nat) =>
      let tile := vram ((if highMap then 0x9C00 else 0x9800) + 32 * (py / 8) + px / 8)
      let base := if bitOf s.io.lcdc 4 then 0x8000 + 16 * tile.toNat
        else if tile.toNat < 128 then 0x9000 + 16 * tile.toNat else 0x8000 + 16 * tile.toNat
      let lo := vram (base + 2 * (py % 8))
      let hi := vram (base + 2 * (py % 8) + 1)
      2 * (if bitOf hi (7 - px % 8) then 1 else 0) + (if bitOf lo (7 - px % 8) then 1 else 0)
    let h := if bitOf s.io.lcdc 2 then 16 else 8
    let transparent := fun (q : Sprite) =>
      let top := q.y.toNat
      let left := q.x.toNat
      top ≤ L + 16 → L + 16 < top + h → left ≤ X + 8 → X + 8 < left + 8 →
        let row := if bitOf q.attr 6 then h - 1 - (L + 16 - top) else L + 16 - top
        let tile := if h = 16 then q.tile.toNat / 2 * 2 + row / 8 else q.tile.toNat
        let p := X + 8 - left
        let bit := if bitOf q.attr 5 then p else 7 - p
        bitOf (vram (0x8000 + 16 * tile + 2 * (row % 8))) bit = false ∧
        bitOf (vram (0x8000 + 16 * tile + 2 * (row % 8) + 1)) bit = false
    (bitOf s.io.lcdc 1 = true → ∀ q ∈ s.ppu.selected, transparent q) →
    let covered := bitOf s.io.lcdc 5 = true ∧ s.io.wy.toNat ≤ L ∧ s.io.wx.toNat ≤ X + 7
    let t := s.decodeTiles.drawLine L
    ∀ idx : Nat,
      (bitOf s.io.lcdc 0 = false → idx = 0) →
      (bitOf s.io.lcdc 0 = true → covered →
        idx = pixel (bitOf s.io.lcdc 6) (L - s.io.wy.toNat) (X + 7 - s.io.wx.toNat)) →
      (bitOf s.io.lcdc 0 = true → ¬ covered →
        idx = pixel (bitOf s.io.lcdc 3) ((L + s.io.scy.toNat) % 256) ((X + s.io.scx.toNat) % 256)) →
      ((t.ppu.fb.getD L []).getD X 0).toNat = s.io.bgp.toNat / 4 ^ idx % 4 ∧
      ∀ row, row ≠ L → t.ppu.fb[row]? = s.ppu.fb[row]?

/-- R310: among the selected sprites, in list order, the last one with a non-zero colour index at a pixel gives the
pixel, through its palette. The colour index is the flipped pixel of its tile in `vram`. -/
def Obligations.LastOpaqueSpriteWins : Prop :=
  ∀ (s : State) (L X : Nat) (front back : List Sprite) (sp : Sprite),
    X < 160 → bitOf s.io.lcdc 1 = true → s.ppu.selected = front ++ sp :: back →
    let vram := fun (a : Nat) => Memory.get s.mem a
    let h := if bitOf s.io.lcdc 2 then 16 else 8
    let index := fun (q : Sprite) =>
      let top := q.y.toNat
      let left := q.x.toNat
      if top ≤ L + 16 ∧ L + 16 < top + h ∧ left ≤ X + 8 ∧ X + 8 < left + 8 then
        let row := if bitOf q.attr 6 then h - 1 - (L + 16 - top) else L + 16 - top
        let tile := if h = 16 then q.tile.toNat / 2 * 2 + row / 8 else q.tile.toNat
        let p := X + 8 - left
        let bit := if bitOf q.attr 5 then p else 7 - p
        let lo := vram (0x8000 + 16 * tile + 2 * (row % 8))
        let hi := vram (0x8000 + 16 * tile + 2 * (row % 8) + 1)
        2 * (if bitOf hi bit then 1 else 0) + (if bitOf lo bit then 1 else 0)
      else 0
    index sp ≠ 0 → (∀ q ∈ back, index q = 0) →
    ((s.decodeTiles.linePixels L).getD X 0).toNat =
      (if bitOf sp.attr 4 then s.io.obp1 else s.io.obp0).toNat / 4 ^ index sp % 4

/-- R304, R305: the OAM scan selects at most ten sprites that meet the line, in ascending order of index, each with the
four bytes of its entry, and a sprite that meets the line is left out only if ten lower ones were selected. -/
def Obligations.OamScanSelects : Prop :=
  ∀ (s : State) (L : Nat),
    let h := if bitOf s.io.lcdc 2 then 16 else 8
    let oam := fun (k : Nat) => Memory.get s.mem (0xFE00 + k)
    let entry := fun (i : Nat) =>
      ({ index := i, y := oam (4 * i), x := oam (4 * i + 1), tile := oam (4 * i + 2), attr := oam (4 * i + 3) } :
        Sprite)
    let meets := fun (i : Nat) => (oam (4 * i)).toNat ≤ L + 16 ∧ L + 16 < (oam (4 * i)).toNat + h
    let out := s.oamSelect L
    out.length ≤ 10 ∧ (out.map Sprite.index).Pairwise (· < ·) ∧
    (∀ sp ∈ out, sp.index < 40 ∧ meets sp.index ∧ sp = entry sp.index) ∧
    (∀ i, i < 40 → meets i → entry i ∈ out ∨ (out.length = 10 ∧ ∀ sp ∈ out, sp.index < i))

/-! ## Memory and the memory-mapped registers -/

/-- R66: the address map, row by row. -/
def Obligations.AddressMap : Prop :=
  ∀ a : Word,
    (regionOf a = .rom ↔ a.toNat ≤ 0x7FFF) ∧
    (regionOf a = .vram ↔ 0x8000 ≤ a.toNat ∧ a.toNat ≤ 0x9FFF) ∧
    (regionOf a = .xram ↔ 0xA000 ≤ a.toNat ∧ a.toNat ≤ 0xBFFF) ∧
    (regionOf a = .wram ↔ 0xC000 ≤ a.toNat ∧ a.toNat ≤ 0xDFFF) ∧
    (regionOf a = .echo ↔ 0xE000 ≤ a.toNat ∧ a.toNat ≤ 0xFDFF) ∧
    (regionOf a = .oam ↔ 0xFE00 ≤ a.toNat ∧ a.toNat ≤ 0xFE9F) ∧
    (regionOf a = .unusable ↔ 0xFEA0 ≤ a.toNat ∧ a.toNat ≤ 0xFEFF) ∧
    (regionOf a = .io ↔ 0xFF00 ≤ a.toNat ∧ a.toNat ≤ 0xFF7F) ∧
    (regionOf a = .hram ↔ 0xFF80 ≤ a.toNat ∧ a.toNat ≤ 0xFFFE) ∧
    (regionOf a = .enable ↔ a.toNat = 0xFFFF)

/-- R67, R68, R72, R77: a normal region, and an unassigned address of the I/O window, is plain storage: the byte
written reads back and every other address reads as before. R69 to R71: a sentinel window reads 0xFF and drops
writes. -/
def Obligations.StorageAndSentinels : Prop :=
  ∀ (s : State) (a : Word) (v : Byte),
    ((regionOf a ∈ [Region.rom, .vram, .xram, .wram, .oam, .hram] ∨
        (regionOf a = .io ∧ a ∉ ([0xFF00, 0xFF0F, 0xFF40, 0xFF41, 0xFF42, 0xFF43, 0xFF44, 0xFF45, 0xFF46, 0xFF47,
          0xFF48, 0xFF49, 0xFF4A, 0xFF4B, 0xFF50] : List Word))) →
      (s.write8 a v).read8 a = v ∧ ∀ x, x ≠ a → (s.write8 a v).read8 x = s.read8 x) ∧
    (regionOf a = .echo ∨ regionOf a = .unusable → s.read8 a = 0xFF ∧ s.write8 a v = s)

/-- R79, R80, R85, R291, R293 to R296: the registers that store a byte read it back; `IF` and `LY` drop writes. That a
read of `LY` is the line counter modulo 256 is the model's choice where the counter exceeds 255, which takes more than
112 lines of VBlank (entry 14, DEDUCED); R85 gives the counter, 0 to 153. -/
def Obligations.RegistersReadAndWrite : Prop :=
  ∀ (s : State) (v : Byte),
    (∀ a ∈ ([0xFF40, 0xFF42, 0xFF43, 0xFF45, 0xFF47, 0xFF48, 0xFF49, 0xFF4A, 0xFF4B, 0xFFFF] : List Word),
      (s.write8 a v).read8 a = v ∧ (s.write8 a v).mem = s.mem ∧ (s.write8 a v).ppu = s.ppu) ∧
    s.write8 0xFF0F v = s ∧ s.read8 0xFF0F = s.iflag ∧
    s.write8 0xFF44 v = s ∧ (s.read8 0xFF44).toNat = s.ppu.ly % 256 ∧
    s.write8 0xFFFF v = { s with ie := v } ∧ s.write8 0xFF40 v = { s with io.lcdc := v }

/-- R82, R292: what `JOYP` and `STAT` read, bit by bit, and what a write of them stores. -/
def Obligations.JoypadAndStatus : Prop :=
  ∀ (s : State) (v : Byte),
    let line := fun (direction button : Bool) =>
      !((!s.io.joySelDir && direction) || (!s.io.joySelBtn && button))
    let j := s.read8 0xFF00
    (bitOf j 7 = true ∧ bitOf j 6 = true ∧ bitOf j 5 = s.io.joySelBtn ∧ bitOf j 4 = s.io.joySelDir ∧
      bitOf j 3 = line s.input.down s.input.start ∧ bitOf j 2 = line s.input.up s.input.select ∧
      bitOf j 1 = line s.input.left s.input.b ∧ bitOf j 0 = line s.input.right s.input.a) ∧
    s.write8 0xFF00 v = { s with io.joySelBtn := bitOf v 5, io.joySelDir := bitOf v 4 } ∧
    (let st := s.read8 0xFF41
     bitOf st 7 = false ∧ (∀ k, 3 ≤ k → k ≤ 6 → bitOf st k = bitOf s.io.statSel k) ∧
      bitOf st 2 = decide (s.ppu.ly = s.io.lyc.toNat) ∧
      st.toNat % 4 = match s.ppu.mode with
        | .hBlank => 0
        | .vBlank => 1
        | .oamScan => 2
        | .pixelTransfer => 3) ∧
    s.write8 0xFF41 v = { s with io.statSel := v &&& 0x78 }

/-- R83: a write to 0xFF46 stores the byte and copies 160 bytes, read through the bus, to OAM; every other address
reads as before. -/
def Obligations.OamCopyResult : Prop :=
  ∀ (s : State) (v : Byte),
    let t := s.write8 0xFF46 v
    t.read8 0xFF46 = v ∧
    (∀ i, i < 160 → t.read8 (0xFE00 + BitVec.ofNat 16 i) =
      (let src := BitVec.ofNat 16 (v.toNat * 256 + i)
       if src = 0xFF46 then v else s.read8 src)) ∧
    (∀ x : Word, x ≠ 0xFF46 → regionOf x ≠ .oam → t.read8 x = s.read8 x)

/-- R81: a write to 0xFF50 stores the byte; the first one, with the overlay active, brings back the cartridge's first
256 bytes and clears the flag; later ones only store. -/
def Obligations.OverlayRemoval : Prop :=
  ∀ (s : State) (v : Byte),
    let t := s.write8 0xFF50 v
    t.read8 0xFF50 = v ∧ t.bootActive = false ∧
    (s.bootActive = true → ∀ i, i < 256 →
      t.read8 (BitVec.ofNat 16 i) = Memory.get s.cfg.cartImage i) ∧
    (s.bootActive = false → t = { s with io.boot := v }) ∧
    (∀ x : Word, x ≠ 0xFF50 → 0x0100 ≤ x.toNat → t.read8 x = s.read8 x)

/-- R64, R65, R86: 16-bit accesses are two byte accesses, low byte first, and wrap; a word written to storage reads
back. -/
def Obligations.WordAccesses : Prop :=
  ∀ (s : State) (a w : Word),
    s.read16 a = pair (s.read8 (a + 1)) (s.read8 a) ∧
    s.write16 a w = (s.write8 a (lo8 w)).write8 (a + 1) (hi8 w) ∧
    (targetOf a = .cell → targetOf (a + 1) = .cell →
      let t := s.write16 a w
      t.read8 a = lo8 w ∧ t.read8 (a + 1) = hi8 w ∧ t.read16 a = w ∧
      ∀ x, x ≠ a → x ≠ a + 1 → t.read8 x = s.read8 x)

/-- R166, R168(b): a push followed by a pop copies the pair and restores `SP`, when the two stack bytes are storage. -/
def Obligations.PushThenPop : Prop :=
  ∀ (s t u : State) (q r : StackPair), q ≠ .af → r ≠ .af →
    targetOf (s.regs.sp - 2) = .cell → targetOf (s.regs.sp - 1) = .cell →
    (exec (.push q) s = .next t → exec (.pop r) t = .next u →
      u.qq r = s.qq q ∧ u.regs.sp = s.regs.sp) ∧
    (exec (.push .af) s = .next t → exec (.pop .af) t = .next u → u.regs = s.regs)

/-- R27 to R29: the flag byte in both layouts. -/
def Obligations.FlagByteLayouts : Prop :=
  ∀ (layout : FlagNibble) (f : Flags) (b : Byte),
    unpackF layout (packF layout f) = f ∧
    packF layout (unpackF layout b) = b &&& (match layout with | .low => 0x0F | .high => 0xF0) ∧
    (packF layout f).toNat =
      (match layout with | .low => 1 | .high => 16) *
        (f.z.toNat * 8 + f.n.toNat * 4 + f.h.toNat * 2 + f.c.toNat)

/-- R22, R23, R28, R104 to R106: each register code reads and writes its own register; a pair is `high × 256 + low`, a
word written to it reads back, and its halves are the registers; `AF` is `A` above the packed flag byte, and writing it
sets `A` from the high byte and the flags from the low byte, as R165 and R166 use it. -/
def Obligations.PairsAndHalves : Prop :=
  ∀ (s : State) (p : Reg16) (w : Word) (r : Reg8) (v : Byte),
    (s.reg .b = s.regs.b ∧ s.reg .c = s.regs.c ∧ s.reg .d = s.regs.d ∧ s.reg .e = s.regs.e ∧ s.reg .h = s.regs.h ∧
      s.reg .l = s.regs.l ∧ s.reg .a = s.regs.a) ∧
    [Reg8.b, .c, .d, .e, .h, .l, .a].map Reg8.code = [0, 1, 2, 3, 4, 5, 7] ∧
    [Reg16.bc, .de, .hl, .sp].map Reg16.code = [0, 1, 2, 3] ∧
    [StackPair.bc, .de, .hl, .af].map StackPair.code = [0, 1, 2, 3] ∧
    [Cond.nz, .z, .nc, .c].map Cond.code = [0, 1, 2, 3] ∧
    (∀ x : Reg8, (s.setReg r v).reg x = if x = r then v else s.reg x) ∧
    (∃ regs, s.setReg r v = { s with regs := regs } ∧ regs.sp = s.regs.sp ∧ regs.pc = s.regs.pc ∧
      regs.flags = s.regs.flags) ∧
    (s.setRr p w).rr p = w ∧
    s.setRr .bc w = { s with regs.b := hi8 w, regs.c := lo8 w } ∧
    s.setRr .de w = { s with regs.d := hi8 w, regs.e := lo8 w } ∧
    s.setRr .hl w = { s with regs.h := hi8 w, regs.l := lo8 w } ∧
    s.setRr .sp w = { s with regs.sp := w } ∧
    (s.rr .bc).toNat = s.regs.b.toNat * 256 + s.regs.c.toNat ∧
    (s.rr .de).toNat = s.regs.d.toNat * 256 + s.regs.e.toNat ∧
    (s.rr .hl).toNat = s.regs.h.toNat * 256 + s.regs.l.toNat ∧
    s.rr .sp = s.regs.sp ∧
    (s.qq .bc = s.rr .bc ∧ s.qq .de = s.rr .de ∧ s.qq .hl = s.rr .hl ∧
      (s.qq .af).toNat = s.regs.a.toNat * 256 + (packF s.cfg.flagNibble s.regs.flags).toNat) ∧
    (s.setQq .bc w = s.setRr .bc w ∧ s.setQq .de w = s.setRr .de w ∧ s.setQq .hl w = s.setRr .hl w ∧
      s.setQq .af w = { s with
        regs.a := BitVec.ofNat 8 (w.toNat / 256)
        regs.flags := unpackF s.cfg.flagNibble (BitVec.ofNat 8 w.toNat) }) ∧
    (hi8 w).toNat = w.toNat / 256 ∧ (lo8 w).toNat = w.toNat % 256

/-! ## Reset and the invariant -/

/-- The reset state of both configurations, with the values of R50 to R54 and R401. The last clause takes the model's
choice that an image is total and reads 0x00 where it lists nothing (entry 5, DESIGN CHOICE). -/
def Obligations.ResetValues : Prop :=
  ∀ cfg : Config,
    let s := State.resetWith cfg
    let boot := cfg.bootImage.isSome
    (s.regs.a = 0x01 ∧ s.regs.b = 0x00 ∧ s.regs.c = 0x13 ∧ s.regs.d = 0x00 ∧ s.regs.e = 0xD8 ∧ s.regs.h = 0x01 ∧
      s.regs.l = 0x4D ∧ s.regs.sp = 0xFFFE ∧ s.regs.pc = (if boot then 0x0000 else 0x0100) ∧
      s.regs.flags = { z := true, n := false, h := true, c := true }) ∧
    (s.ime = false ∧ s.ie = 0 ∧ s.iflag = 0 ∧ s.runState = .running ∧ s.fatal = none ∧ s.stopFlag = false ∧
      s.frameReady = false ∧ s.bootActive = boot) ∧
    (s.io.lcdc = (if boot then 0 else 0x91) ∧ s.io.bgp = (if boot then 0 else 0xFC) ∧
      s.io.obp0 = (if boot then 0 else 0xFF) ∧ s.io.obp1 = (if boot then 0 else 0xFF) ∧
      s.io.dma = (if boot then 0 else 0xFF) ∧ s.io.boot = (if boot then 0 else 0x01) ∧ s.io.statSel = 0 ∧
      s.io.scy = 0 ∧ s.io.scx = 0 ∧ s.io.lyc = 0 ∧ s.io.wy = 0 ∧ s.io.wx = 0 ∧ s.io.joySelDir = false ∧
      s.io.joySelBtn = false) ∧
    (s.ppu.mode = .oamScan ∧ s.ppu.acc = 0 ∧ s.ppu.ly = 0 ∧ s.ppu.selected = [] ∧
      (∀ y x, y < 144 → x < 160 → (s.ppu.fb[y]?.bind fun row => row[x]?) = some 0) ∧
      s.ppu.bgTiles = List.replicate 256 (List.replicate 8 (List.replicate 8 0)) ∧
      s.ppu.objTiles = List.replicate 256 (List.replicate 8 (List.replicate 8 0))) ∧
    (∀ a : Word, targetOf a = .cell →
      s.read8 a =
        if 0x8000 ≤ a.toNat then 0x00
        else match cfg.bootImage with
          | none => Memory.get cfg.cartImage a.toNat
          | some image => if a.toNat < 256 then Memory.get image a.toNat else Memory.get cfg.cartImage a.toNat)

/-- The invariant holds at reset, for every valid choice of the parameters. -/
def Obligations.ResetMeetsInvariant : Prop :=
  (∀ cfg : Config, cfg.valid → (State.resetWith cfg).Inv) ∧ State.reset.Inv

/-- Every step keeps the invariant, from every state that has it. -/
def Obligations.StepKeepsInvariant : Prop :=
  ∀ s t : State, s.Inv → step s = .next t → t.Inv

end
end

