-- ==== Sys2Proof/Laws/Memory.lean ====
section
/-!
SUPPORT. The laws of the sparse memory: read after write, everywhere else unchanged, the canonical form, and which
addresses an operation can list. The reading laws hold for every list, canonical or not.
-/

namespace Sys2Proof.Machine

theorem Memory.get_erase (m : Memory) (a x : Nat) :
    Memory.get (Memory.erase m a) x = if x = a then Memory.unlisted else Memory.get m x := by
  induction m with
  | nil => simp [Memory.erase, Memory.get]
  | cons cell m ih =>
    obtain ⟨k, w⟩ := cell
    simp only [Memory.erase, List.filter_cons] at ih ⊢
    by_cases hk : k = a
    · subst hk
      simp only [bne_self_eq_false, Bool.false_eq_true, if_false, ih, Memory.get]
      by_cases hx : x = k
      · simp [hx]
      · rw [if_neg hx, if_neg hx, if_neg (Ne.symm hx)]
    · simp only [bne_iff_ne, ne_eq, hk, not_false_eq_true, if_true, Memory.get, ih]
      by_cases hx : k = x
      · subst hx; simp [hk]
      · simp [hx]

theorem Memory.get_insert (m : Memory) (a x : Nat) (v : Byte) (h : ∀ cell ∈ m, cell.1 ≠ a) :
    Memory.get (Memory.insert m a v) x = if x = a then v else Memory.get m x := by
  induction m with
  | nil =>
    by_cases hx : a = x
    · simp [Memory.insert, Memory.get, hx]
    · simp [Memory.insert, Memory.get, hx, Ne.symm hx]
  | cons cell m ih =>
    obtain ⟨k, w⟩ := cell
    have hk : k ≠ a := h (k, w) (by simp)
    have ih := ih fun c hc => h c (by simp [hc])
    simp only [Memory.insert]
    split
    · by_cases hx : a = x
      · simp [Memory.get, hx]
      · simp [Memory.get, hx, Ne.symm hx]
    · simp only [Memory.get, ih]
      by_cases hx : k = x
      · subst hx; simp [hk]
      · simp [hx]

theorem Memory.erase_ne (m : Memory) (a : Nat) : ∀ cell ∈ Memory.erase m a, cell.1 ≠ a := by
  intro cell h
  simpa using (List.mem_filter.1 h).2

/-- A write stores its byte and leaves every other address as it was. -/
@[simp] theorem Memory.get_set (m : Memory) (a x : Nat) (v : Byte) :
    Memory.get (Memory.set m a v) x = if x = a then v else Memory.get m x := by
  simp only [Memory.set]
  split
  · next h => subst h; exact Memory.get_erase m a x
  · rw [Memory.get_insert _ _ _ _ (Memory.erase_ne m a), Memory.get_erase]
    by_cases hx : x = a <;> simp [hx]

/-- A bulk copy stores its bytes from its address on and leaves every other address as it was. -/
theorem Memory.get_copy (bytes : List Byte) (m : Memory) (a x : Nat) :
    Memory.get (Memory.copy m a bytes) x =
      if a ≤ x ∧ x < a + bytes.length then bytes.getD (x - a) Memory.unlisted else Memory.get m x := by
  induction bytes generalizing m a with
  | nil => simp [Memory.copy]
  | cons b bytes ih =>
    simp only [Memory.copy, ih, Memory.get_set, List.length_cons]
    by_cases h1 : a + 1 ≤ x ∧ x < a + 1 + bytes.length
    · rw [if_pos h1, if_pos (by omega), show x - a = (x - (a + 1)) + 1 by omega]; simp
    · rw [if_neg h1]
      by_cases h2 : x = a
      · subst h2; simp
      · rw [if_neg h2, if_neg (by omega)]

theorem Memory.length_slice (m : Memory) (a n : Nat) : (Memory.slice m a n).length = n := by
  simp [Memory.slice]

theorem Memory.getD_slice (m : Memory) (a n i : Nat) (h : i < n) (d : Byte) :
    (Memory.slice m a n).getD i d = Memory.get m (a + i) := by
  simp [Memory.slice, h]

/-! ## The canonical form -/

theorem Memory.wfAbove_mono {m : Memory} {lo lo' : Option Nat} (h : ∀ k, lo.all (· < k) = true → lo'.all (· < k) = true)
    (hm : Memory.wfAbove lo m = true) : Memory.wfAbove lo' m = true := by
  cases m with
  | nil => rfl
  | cons cell m =>
    obtain ⟨k, w⟩ := cell
    simp only [Memory.wfAbove, Bool.and_eq_true] at hm ⊢
    exact ⟨⟨h k hm.1.1, hm.1.2⟩, hm.2⟩

theorem Memory.wfAbove_weaken {m : Memory} {lo : Option Nat} (k : Nat) (h : lo.all (· < k) = true)
    (hm : Memory.wfAbove (some k) m = true) : Memory.wfAbove lo m = true := by
  refine Memory.wfAbove_mono (fun j hj => ?_) hm
  cases lo with
  | none => rfl
  | some l => simp at h hj ⊢; omega

theorem Memory.wfAbove_erase {m : Memory} {lo : Option Nat} (a : Nat) (h : Memory.wfAbove lo m = true) :
    Memory.wfAbove lo (Memory.erase m a) = true := by
  induction m generalizing lo with
  | nil => exact h
  | cons cell m ih =>
    obtain ⟨k, w⟩ := cell
    simp only [Memory.wfAbove, Bool.and_eq_true] at h
    have ih := ih h.2
    simp only [Memory.erase, List.filter_cons] at ih ⊢
    split
    · simp only [Memory.wfAbove, Bool.and_eq_true]; exact ⟨h.1, ih⟩
    · exact Memory.wfAbove_weaken k h.1.1 ih

theorem Memory.wfAbove_insert {m : Memory} {lo : Option Nat} {a : Nat} {v : Byte} (hv : v ≠ Memory.unlisted)
    (hlo : lo.all (· < a) = true) (ha : ∀ cell ∈ m, cell.1 ≠ a) (h : Memory.wfAbove lo m = true) :
    Memory.wfAbove lo (Memory.insert m a v) = true := by
  induction m generalizing lo with
  | nil => simp [Memory.insert, Memory.wfAbove, hlo, hv]
  | cons cell m ih =>
    obtain ⟨k, w⟩ := cell
    have hk : k ≠ a := ha (k, w) (by simp)
    simp only [Memory.wfAbove, Bool.and_eq_true] at h
    simp only [Memory.insert]
    split
    · next hlt => simp [Memory.wfAbove, hlo, hv, hlt, h.2, bne_iff_ne.1 h.1.2]
    · next hle =>
      simp only [Memory.wfAbove, Bool.and_eq_true]
      exact ⟨h.1, ih (by simp; omega) (fun c hc => ha c (by simp [hc])) h.2⟩

/-- A write keeps the canonical form. -/
theorem Memory.wf_set {m : Memory} (a : Nat) (v : Byte) (h : Memory.wf m = true) :
    Memory.wf (Memory.set m a v) = true := by
  simp only [Memory.set]
  split
  · exact Memory.wfAbove_erase a h
  · next hv => exact Memory.wfAbove_insert hv rfl (Memory.erase_ne m a) (Memory.wfAbove_erase a h)

/-- A bulk copy keeps the canonical form. -/
theorem Memory.wf_copy {m : Memory} (a : Nat) (bytes : List Byte) (h : Memory.wf m = true) :
    Memory.wf (Memory.copy m a bytes) = true := by
  induction bytes generalizing m a with
  | nil => exact h
  | cons b bytes ih => exact ih _ (Memory.wf_set a b h)

/-- A part of a canonical memory is canonical. -/
theorem Memory.wfAbove_filter {m : Memory} {lo : Option Nat} (p : Host.Cell → Bool) (h : Memory.wfAbove lo m = true) :
    Memory.wfAbove lo (m.filter p) = true := by
  induction m generalizing lo with
  | nil => exact h
  | cons cell m ih =>
    obtain ⟨k, w⟩ := cell
    simp only [Memory.wfAbove, Bool.and_eq_true] at h
    simp only [List.filter_cons]
    split
    · simp only [Memory.wfAbove, Bool.and_eq_true]; exact ⟨h.1, ih h.2⟩
    · exact Memory.wfAbove_weaken k h.1.1 (ih h.2)

/-! ## Which addresses are listed -/

theorem Memory.mem_insert {m : Memory} {a : Nat} {v : Byte} {cell : Host.Cell} (h : cell ∈ Memory.insert m a v) :
    cell = (a, v) ∨ cell ∈ m := by
  induction m with
  | nil => simpa [Memory.insert] using h
  | cons c m ih =>
    obtain ⟨k, w⟩ := c
    simp only [Memory.insert] at h
    split at h
    · simpa using h
    · rcases List.mem_cons.1 h with rfl | h
      · simp
      · rcases ih h with h | h <;> simp [h]

/-- A write lists at most its own address besides those listed before. -/
theorem Memory.mem_set {m : Memory} {a : Nat} {v : Byte} {cell : Host.Cell} (h : cell ∈ Memory.set m a v) :
    cell.1 = a ∨ cell ∈ m := by
  simp only [Memory.set] at h
  split at h
  · exact .inr (List.mem_filter.1 h).1
  · rcases Memory.mem_insert h with rfl | h
    · exact .inl rfl
    · exact .inr (List.mem_filter.1 h).1

/-- A bulk copy lists at most the addresses it writes besides those listed before. -/
theorem Memory.mem_copy {bytes : List Byte} {m : Memory} {a : Nat} {cell : Host.Cell}
    (h : cell ∈ Memory.copy m a bytes) : (a ≤ cell.1 ∧ cell.1 < a + bytes.length) ∨ cell ∈ m := by
  induction bytes generalizing m a with
  | nil => exact .inr h
  | cons b bytes ih =>
    simp only [Memory.copy] at h
    rcases ih h with h | h
    · exact .inl ⟨by omega, by simp; omega⟩
    · rcases Memory.mem_set h with h | h
      · exact .inl ⟨by omega, by simp; omega⟩
      · exact .inr h

/-- What a part of a memory reads, when the part is chosen by address. -/
theorem Memory.get_filter (m : Memory) (p : Nat → Bool) (x : Nat) :
    Memory.get (m.filter fun cell => p cell.1) x = if p x then Memory.get m x else Memory.unlisted := by
  induction m with
  | nil => simp [Memory.get]
  | cons cell m ih =>
    obtain ⟨k, w⟩ := cell
    simp only [List.filter_cons]
    by_cases hp : p k = true
    · simp only [hp, if_true, Memory.get, ih]
      by_cases hx : k = x
      · subst hx; simp [hp]
      · simp [hx]
    · simp only [hp, if_false, Bool.false_eq_true, ih, Memory.get]
      by_cases hx : k = x
      · subst hx; simp [hp]
      · simp [hx]

end Sys2Proof.Machine
end

