-- ==== Sys2Proof/Laws/State.lean ====
section
/-!
SUPPORT. What each register update leaves alone: one lemma per field per update, so that no later proof unfolds a record
update.
-/

namespace Sys2Proof.Machine

variable (s : State)

/-! ## `setReg` -/

@[simp] theorem State.setReg_ime (r : Reg8) (v : Byte) : (s.setReg r v).ime = s.ime := by cases r <;> rfl
@[simp] theorem State.setReg_ie (r : Reg8) (v : Byte) : (s.setReg r v).ie = s.ie := by cases r <;> rfl
@[simp] theorem State.setReg_iflag (r : Reg8) (v : Byte) : (s.setReg r v).iflag = s.iflag := by cases r <;> rfl
@[simp] theorem State.setReg_runState (r : Reg8) (v : Byte) : (s.setReg r v).runState = s.runState := by cases r <;> rfl
@[simp] theorem State.setReg_fatal (r : Reg8) (v : Byte) : (s.setReg r v).fatal = s.fatal := by cases r <;> rfl
@[simp] theorem State.setReg_mem (r : Reg8) (v : Byte) : (s.setReg r v).mem = s.mem := by cases r <;> rfl
@[simp] theorem State.setReg_bootActive (r : Reg8) (v : Byte) : (s.setReg r v).bootActive = s.bootActive := by cases r <;> rfl
@[simp] theorem State.setReg_io (r : Reg8) (v : Byte) : (s.setReg r v).io = s.io := by cases r <;> rfl
@[simp] theorem State.setReg_ppu (r : Reg8) (v : Byte) : (s.setReg r v).ppu = s.ppu := by cases r <;> rfl
@[simp] theorem State.setReg_input (r : Reg8) (v : Byte) : (s.setReg r v).input = s.input := by cases r <;> rfl
@[simp] theorem State.setReg_hostQueue (r : Reg8) (v : Byte) : (s.setReg r v).hostQueue = s.hostQueue := by cases r <;> rfl
@[simp] theorem State.setReg_frameReady (r : Reg8) (v : Byte) : (s.setReg r v).frameReady = s.frameReady := by cases r <;> rfl
@[simp] theorem State.setReg_report (r : Reg8) (v : Byte) : (s.setReg r v).report = s.report := by cases r <;> rfl
@[simp] theorem State.setReg_stopFlag (r : Reg8) (v : Byte) : (s.setReg r v).stopFlag = s.stopFlag := by cases r <;> rfl
@[simp] theorem State.setReg_cycles (r : Reg8) (v : Byte) : (s.setReg r v).cycles = s.cycles := by cases r <;> rfl
@[simp] theorem State.setReg_cfg (r : Reg8) (v : Byte) : (s.setReg r v).cfg = s.cfg := by cases r <;> rfl

/-! ## `setBc` -/

@[simp] theorem State.setBc_ime (w : Word) : (s.setBc w).ime = s.ime := rfl
@[simp] theorem State.setBc_ie (w : Word) : (s.setBc w).ie = s.ie := rfl
@[simp] theorem State.setBc_iflag (w : Word) : (s.setBc w).iflag = s.iflag := rfl
@[simp] theorem State.setBc_runState (w : Word) : (s.setBc w).runState = s.runState := rfl
@[simp] theorem State.setBc_fatal (w : Word) : (s.setBc w).fatal = s.fatal := rfl
@[simp] theorem State.setBc_mem (w : Word) : (s.setBc w).mem = s.mem := rfl
@[simp] theorem State.setBc_bootActive (w : Word) : (s.setBc w).bootActive = s.bootActive := rfl
@[simp] theorem State.setBc_io (w : Word) : (s.setBc w).io = s.io := rfl
@[simp] theorem State.setBc_ppu (w : Word) : (s.setBc w).ppu = s.ppu := rfl
@[simp] theorem State.setBc_input (w : Word) : (s.setBc w).input = s.input := rfl
@[simp] theorem State.setBc_hostQueue (w : Word) : (s.setBc w).hostQueue = s.hostQueue := rfl
@[simp] theorem State.setBc_frameReady (w : Word) : (s.setBc w).frameReady = s.frameReady := rfl
@[simp] theorem State.setBc_report (w : Word) : (s.setBc w).report = s.report := rfl
@[simp] theorem State.setBc_stopFlag (w : Word) : (s.setBc w).stopFlag = s.stopFlag := rfl
@[simp] theorem State.setBc_cycles (w : Word) : (s.setBc w).cycles = s.cycles := rfl
@[simp] theorem State.setBc_cfg (w : Word) : (s.setBc w).cfg = s.cfg := rfl

/-! ## `setDe` -/

@[simp] theorem State.setDe_ime (w : Word) : (s.setDe w).ime = s.ime := rfl
@[simp] theorem State.setDe_ie (w : Word) : (s.setDe w).ie = s.ie := rfl
@[simp] theorem State.setDe_iflag (w : Word) : (s.setDe w).iflag = s.iflag := rfl
@[simp] theorem State.setDe_runState (w : Word) : (s.setDe w).runState = s.runState := rfl
@[simp] theorem State.setDe_fatal (w : Word) : (s.setDe w).fatal = s.fatal := rfl
@[simp] theorem State.setDe_mem (w : Word) : (s.setDe w).mem = s.mem := rfl
@[simp] theorem State.setDe_bootActive (w : Word) : (s.setDe w).bootActive = s.bootActive := rfl
@[simp] theorem State.setDe_io (w : Word) : (s.setDe w).io = s.io := rfl
@[simp] theorem State.setDe_ppu (w : Word) : (s.setDe w).ppu = s.ppu := rfl
@[simp] theorem State.setDe_input (w : Word) : (s.setDe w).input = s.input := rfl
@[simp] theorem State.setDe_hostQueue (w : Word) : (s.setDe w).hostQueue = s.hostQueue := rfl
@[simp] theorem State.setDe_frameReady (w : Word) : (s.setDe w).frameReady = s.frameReady := rfl
@[simp] theorem State.setDe_report (w : Word) : (s.setDe w).report = s.report := rfl
@[simp] theorem State.setDe_stopFlag (w : Word) : (s.setDe w).stopFlag = s.stopFlag := rfl
@[simp] theorem State.setDe_cycles (w : Word) : (s.setDe w).cycles = s.cycles := rfl
@[simp] theorem State.setDe_cfg (w : Word) : (s.setDe w).cfg = s.cfg := rfl

/-! ## `setHl` -/

@[simp] theorem State.setHl_ime (w : Word) : (s.setHl w).ime = s.ime := rfl
@[simp] theorem State.setHl_ie (w : Word) : (s.setHl w).ie = s.ie := rfl
@[simp] theorem State.setHl_iflag (w : Word) : (s.setHl w).iflag = s.iflag := rfl
@[simp] theorem State.setHl_runState (w : Word) : (s.setHl w).runState = s.runState := rfl
@[simp] theorem State.setHl_fatal (w : Word) : (s.setHl w).fatal = s.fatal := rfl
@[simp] theorem State.setHl_mem (w : Word) : (s.setHl w).mem = s.mem := rfl
@[simp] theorem State.setHl_bootActive (w : Word) : (s.setHl w).bootActive = s.bootActive := rfl
@[simp] theorem State.setHl_io (w : Word) : (s.setHl w).io = s.io := rfl
@[simp] theorem State.setHl_ppu (w : Word) : (s.setHl w).ppu = s.ppu := rfl
@[simp] theorem State.setHl_input (w : Word) : (s.setHl w).input = s.input := rfl
@[simp] theorem State.setHl_hostQueue (w : Word) : (s.setHl w).hostQueue = s.hostQueue := rfl
@[simp] theorem State.setHl_frameReady (w : Word) : (s.setHl w).frameReady = s.frameReady := rfl
@[simp] theorem State.setHl_report (w : Word) : (s.setHl w).report = s.report := rfl
@[simp] theorem State.setHl_stopFlag (w : Word) : (s.setHl w).stopFlag = s.stopFlag := rfl
@[simp] theorem State.setHl_cycles (w : Word) : (s.setHl w).cycles = s.cycles := rfl
@[simp] theorem State.setHl_cfg (w : Word) : (s.setHl w).cfg = s.cfg := rfl

/-! ## `setRr` -/

@[simp] theorem State.setRr_ime (p : Reg16) (w : Word) : (s.setRr p w).ime = s.ime := by cases p <;> rfl
@[simp] theorem State.setRr_ie (p : Reg16) (w : Word) : (s.setRr p w).ie = s.ie := by cases p <;> rfl
@[simp] theorem State.setRr_iflag (p : Reg16) (w : Word) : (s.setRr p w).iflag = s.iflag := by cases p <;> rfl
@[simp] theorem State.setRr_runState (p : Reg16) (w : Word) : (s.setRr p w).runState = s.runState := by cases p <;> rfl
@[simp] theorem State.setRr_fatal (p : Reg16) (w : Word) : (s.setRr p w).fatal = s.fatal := by cases p <;> rfl
@[simp] theorem State.setRr_mem (p : Reg16) (w : Word) : (s.setRr p w).mem = s.mem := by cases p <;> rfl
@[simp] theorem State.setRr_bootActive (p : Reg16) (w : Word) : (s.setRr p w).bootActive = s.bootActive := by cases p <;> rfl
@[simp] theorem State.setRr_io (p : Reg16) (w : Word) : (s.setRr p w).io = s.io := by cases p <;> rfl
@[simp] theorem State.setRr_ppu (p : Reg16) (w : Word) : (s.setRr p w).ppu = s.ppu := by cases p <;> rfl
@[simp] theorem State.setRr_input (p : Reg16) (w : Word) : (s.setRr p w).input = s.input := by cases p <;> rfl
@[simp] theorem State.setRr_hostQueue (p : Reg16) (w : Word) : (s.setRr p w).hostQueue = s.hostQueue := by cases p <;> rfl
@[simp] theorem State.setRr_frameReady (p : Reg16) (w : Word) : (s.setRr p w).frameReady = s.frameReady := by cases p <;> rfl
@[simp] theorem State.setRr_report (p : Reg16) (w : Word) : (s.setRr p w).report = s.report := by cases p <;> rfl
@[simp] theorem State.setRr_stopFlag (p : Reg16) (w : Word) : (s.setRr p w).stopFlag = s.stopFlag := by cases p <;> rfl
@[simp] theorem State.setRr_cycles (p : Reg16) (w : Word) : (s.setRr p w).cycles = s.cycles := by cases p <;> rfl
@[simp] theorem State.setRr_cfg (p : Reg16) (w : Word) : (s.setRr p w).cfg = s.cfg := by cases p <;> rfl

/-! ## `setQq` -/

@[simp] theorem State.setQq_ime (p : StackPair) (w : Word) : (s.setQq p w).ime = s.ime := by cases p <;> rfl
@[simp] theorem State.setQq_ie (p : StackPair) (w : Word) : (s.setQq p w).ie = s.ie := by cases p <;> rfl
@[simp] theorem State.setQq_iflag (p : StackPair) (w : Word) : (s.setQq p w).iflag = s.iflag := by cases p <;> rfl
@[simp] theorem State.setQq_runState (p : StackPair) (w : Word) : (s.setQq p w).runState = s.runState := by cases p <;> rfl
@[simp] theorem State.setQq_fatal (p : StackPair) (w : Word) : (s.setQq p w).fatal = s.fatal := by cases p <;> rfl
@[simp] theorem State.setQq_mem (p : StackPair) (w : Word) : (s.setQq p w).mem = s.mem := by cases p <;> rfl
@[simp] theorem State.setQq_bootActive (p : StackPair) (w : Word) : (s.setQq p w).bootActive = s.bootActive := by cases p <;> rfl
@[simp] theorem State.setQq_io (p : StackPair) (w : Word) : (s.setQq p w).io = s.io := by cases p <;> rfl
@[simp] theorem State.setQq_ppu (p : StackPair) (w : Word) : (s.setQq p w).ppu = s.ppu := by cases p <;> rfl
@[simp] theorem State.setQq_input (p : StackPair) (w : Word) : (s.setQq p w).input = s.input := by cases p <;> rfl
@[simp] theorem State.setQq_hostQueue (p : StackPair) (w : Word) : (s.setQq p w).hostQueue = s.hostQueue := by cases p <;> rfl
@[simp] theorem State.setQq_frameReady (p : StackPair) (w : Word) : (s.setQq p w).frameReady = s.frameReady := by cases p <;> rfl
@[simp] theorem State.setQq_report (p : StackPair) (w : Word) : (s.setQq p w).report = s.report := by cases p <;> rfl
@[simp] theorem State.setQq_stopFlag (p : StackPair) (w : Word) : (s.setQq p w).stopFlag = s.stopFlag := by cases p <;> rfl
@[simp] theorem State.setQq_cycles (p : StackPair) (w : Word) : (s.setQq p w).cycles = s.cycles := by cases p <;> rfl
@[simp] theorem State.setQq_cfg (p : StackPair) (w : Word) : (s.setQq p w).cfg = s.cfg := by cases p <;> rfl

/-! ## `setFlags` -/

@[simp] theorem State.setFlags_ime (f : Flags) : (s.setFlags f).ime = s.ime := rfl
@[simp] theorem State.setFlags_ie (f : Flags) : (s.setFlags f).ie = s.ie := rfl
@[simp] theorem State.setFlags_iflag (f : Flags) : (s.setFlags f).iflag = s.iflag := rfl
@[simp] theorem State.setFlags_runState (f : Flags) : (s.setFlags f).runState = s.runState := rfl
@[simp] theorem State.setFlags_fatal (f : Flags) : (s.setFlags f).fatal = s.fatal := rfl
@[simp] theorem State.setFlags_mem (f : Flags) : (s.setFlags f).mem = s.mem := rfl
@[simp] theorem State.setFlags_bootActive (f : Flags) : (s.setFlags f).bootActive = s.bootActive := rfl
@[simp] theorem State.setFlags_io (f : Flags) : (s.setFlags f).io = s.io := rfl
@[simp] theorem State.setFlags_ppu (f : Flags) : (s.setFlags f).ppu = s.ppu := rfl
@[simp] theorem State.setFlags_input (f : Flags) : (s.setFlags f).input = s.input := rfl
@[simp] theorem State.setFlags_hostQueue (f : Flags) : (s.setFlags f).hostQueue = s.hostQueue := rfl
@[simp] theorem State.setFlags_frameReady (f : Flags) : (s.setFlags f).frameReady = s.frameReady := rfl
@[simp] theorem State.setFlags_report (f : Flags) : (s.setFlags f).report = s.report := rfl
@[simp] theorem State.setFlags_stopFlag (f : Flags) : (s.setFlags f).stopFlag = s.stopFlag := rfl
@[simp] theorem State.setFlags_cycles (f : Flags) : (s.setFlags f).cycles = s.cycles := rfl
@[simp] theorem State.setFlags_cfg (f : Flags) : (s.setFlags f).cfg = s.cfg := rfl

/-! ## `setPc` -/

@[simp] theorem State.setPc_ime (w : Word) : (s.setPc w).ime = s.ime := rfl
@[simp] theorem State.setPc_ie (w : Word) : (s.setPc w).ie = s.ie := rfl
@[simp] theorem State.setPc_iflag (w : Word) : (s.setPc w).iflag = s.iflag := rfl
@[simp] theorem State.setPc_runState (w : Word) : (s.setPc w).runState = s.runState := rfl
@[simp] theorem State.setPc_fatal (w : Word) : (s.setPc w).fatal = s.fatal := rfl
@[simp] theorem State.setPc_mem (w : Word) : (s.setPc w).mem = s.mem := rfl
@[simp] theorem State.setPc_bootActive (w : Word) : (s.setPc w).bootActive = s.bootActive := rfl
@[simp] theorem State.setPc_io (w : Word) : (s.setPc w).io = s.io := rfl
@[simp] theorem State.setPc_ppu (w : Word) : (s.setPc w).ppu = s.ppu := rfl
@[simp] theorem State.setPc_input (w : Word) : (s.setPc w).input = s.input := rfl
@[simp] theorem State.setPc_hostQueue (w : Word) : (s.setPc w).hostQueue = s.hostQueue := rfl
@[simp] theorem State.setPc_frameReady (w : Word) : (s.setPc w).frameReady = s.frameReady := rfl
@[simp] theorem State.setPc_report (w : Word) : (s.setPc w).report = s.report := rfl
@[simp] theorem State.setPc_stopFlag (w : Word) : (s.setPc w).stopFlag = s.stopFlag := rfl
@[simp] theorem State.setPc_cycles (w : Word) : (s.setPc w).cycles = s.cycles := rfl
@[simp] theorem State.setPc_cfg (w : Word) : (s.setPc w).cfg = s.cfg := rfl

/-! ## `dropTop` -/

@[simp] theorem State.dropTop_ime : s.dropTop.ime = s.ime := rfl
@[simp] theorem State.dropTop_ie : s.dropTop.ie = s.ie := rfl
@[simp] theorem State.dropTop_iflag : s.dropTop.iflag = s.iflag := rfl
@[simp] theorem State.dropTop_runState : s.dropTop.runState = s.runState := rfl
@[simp] theorem State.dropTop_fatal : s.dropTop.fatal = s.fatal := rfl
@[simp] theorem State.dropTop_mem : s.dropTop.mem = s.mem := rfl
@[simp] theorem State.dropTop_bootActive : s.dropTop.bootActive = s.bootActive := rfl
@[simp] theorem State.dropTop_io : s.dropTop.io = s.io := rfl
@[simp] theorem State.dropTop_ppu : s.dropTop.ppu = s.ppu := rfl
@[simp] theorem State.dropTop_input : s.dropTop.input = s.input := rfl
@[simp] theorem State.dropTop_hostQueue : s.dropTop.hostQueue = s.hostQueue := rfl
@[simp] theorem State.dropTop_frameReady : s.dropTop.frameReady = s.frameReady := rfl
@[simp] theorem State.dropTop_report : s.dropTop.report = s.report := rfl
@[simp] theorem State.dropTop_stopFlag : s.dropTop.stopFlag = s.stopFlag := rfl
@[simp] theorem State.dropTop_cycles : s.dropTop.cycles = s.cycles := rfl
@[simp] theorem State.dropTop_cfg : s.dropTop.cfg = s.cfg := rfl

/-! ## The registers -/

@[simp] theorem State.setFlags_regs (f : Flags) : (s.setFlags f).regs = { s.regs with flags := f } := rfl
@[simp] theorem State.setPc_regs (w : Word) : (s.setPc w).regs = { s.regs with pc := w } := rfl
@[simp] theorem State.dropTop_regs : s.dropTop.regs = { s.regs with sp := s.regs.sp + 2 } := rfl
@[simp] theorem State.setBc_regs (w : Word) : (s.setBc w).regs = { s.regs with b := hi8 w, c := lo8 w } := rfl
@[simp] theorem State.setDe_regs (w : Word) : (s.setDe w).regs = { s.regs with d := hi8 w, e := lo8 w } := rfl
@[simp] theorem State.setHl_regs (w : Word) : (s.setHl w).regs = { s.regs with h := hi8 w, l := lo8 w } := rfl
@[simp] theorem State.setReg_flags (r : Reg8) (v : Byte) : (s.setReg r v).regs.flags = s.regs.flags := by
  cases r <;> rfl
@[simp] theorem State.setReg_sp (r : Reg8) (v : Byte) : (s.setReg r v).regs.sp = s.regs.sp := by cases r <;> rfl
@[simp] theorem State.setReg_pc (r : Reg8) (v : Byte) : (s.setReg r v).regs.pc = s.regs.pc := by cases r <;> rfl
@[simp] theorem State.setRr_flags (p : Reg16) (w : Word) : (s.setRr p w).regs.flags = s.regs.flags := by
  cases p <;> rfl
@[simp] theorem State.setRr_pc (p : Reg16) (w : Word) : (s.setRr p w).regs.pc = s.regs.pc := by cases p <;> rfl
@[simp] theorem State.setQq_sp (p : StackPair) (w : Word) : (s.setQq p w).regs.sp = s.regs.sp := by cases p <;> rfl
@[simp] theorem State.setQq_pc (p : StackPair) (w : Word) : (s.setQq p w).regs.pc = s.regs.pc := by cases p <;> rfl

/-- Read after write of the register file. -/
@[simp] theorem State.reg_setReg (r x : Reg8) (v : Byte) : (s.setReg r v).reg x = if x = r then v else s.reg x := by
  cases r <;> cases x <;> rfl

end Sys2Proof.Machine
end

