-- ==== Sys2Proof/Laws/Bus.lean ====
section
/-!
SUPPORT. The bus: what stands behind an address, what a write leaves alone, and read after write.
-/

namespace Sys2Proof.Machine

/-! ## Addresses -/

theorem targetOf_cell_of_region {a : Word} (h : regionOf a ∈ [Region.rom, .vram, .xram, .wram, .oam, .hram]) :
    targetOf a = .cell := by
  simp only [targetOf]
  revert h
  cases regionOf a <;> simp

theorem regionOf_oam {a : Word} : regionOf a = .oam ↔ 0xFE00 ≤ a.toNat ∧ a.toNat ≤ 0xFE9F := by
  simp only [regionOf]
  repeat' split
  all_goals simp
  all_goals omega

theorem regionOf_rom {a : Word} : regionOf a = .rom ↔ a.toNat ≤ 0x7FFF := by
  simp only [regionOf]
  repeat' split
  all_goals simp
  all_goals omega

/-- The address of a register (R76). -/
def IoReg.addr : IoReg → Word
  | .joyp => 0xFF00
  | .iflag => 0xFF0F
  | .lcdc => 0xFF40
  | .stat => 0xFF41
  | .scy => 0xFF42
  | .scx => 0xFF43
  | .ly => 0xFF44
  | .lyc => 0xFF45
  | .dma => 0xFF46
  | .bgp => 0xFF47
  | .obp0 => 0xFF48
  | .obp1 => 0xFF49
  | .wy => 0xFF4A
  | .wx => 0xFF4B
  | .boot => 0xFF50
  | .ie => 0xFFFF

theorem targetOf_addr (r : IoReg) : targetOf r.addr = .reg r := by cases r <;> decide

/-- Only its own address leads to a register. -/
theorem eq_addr_of_target {a : Word} {r : IoReg} (h : targetOf a = .reg r) : a = r.addr := by
  have key : ∀ {r}, ioRegAt a = some r → a = r.addr := by
    intro r h
    apply BitVec.eq_of_toNat_eq
    simp only [ioRegAt] at h
    split at h <;> simp_all <;> subst h <;> rfl
  simp only [targetOf] at h
  split at h <;> try cases h
  all_goals
    split at h
    · next hr => cases h; exact key hr
    · cases h

/-! ## What a write leaves alone -/

variable (s : State) (a : Word) (v : Byte)

@[simp] theorem State.removeOverlay_regs : s.removeOverlay.regs = s.regs := by unfold State.removeOverlay; split <;> rfl
@[simp] theorem State.removeOverlay_ime : s.removeOverlay.ime = s.ime := by unfold State.removeOverlay; split <;> rfl
@[simp] theorem State.removeOverlay_iflag : s.removeOverlay.iflag = s.iflag := by unfold State.removeOverlay; split <;> rfl
@[simp] theorem State.removeOverlay_runState : s.removeOverlay.runState = s.runState := by unfold State.removeOverlay; split <;> rfl
@[simp] theorem State.removeOverlay_fatal : s.removeOverlay.fatal = s.fatal := by unfold State.removeOverlay; split <;> rfl
@[simp] theorem State.removeOverlay_ppu : s.removeOverlay.ppu = s.ppu := by unfold State.removeOverlay; split <;> rfl
@[simp] theorem State.removeOverlay_input : s.removeOverlay.input = s.input := by unfold State.removeOverlay; split <;> rfl
@[simp] theorem State.removeOverlay_hostQueue : s.removeOverlay.hostQueue = s.hostQueue := by unfold State.removeOverlay; split <;> rfl
@[simp] theorem State.removeOverlay_frameReady : s.removeOverlay.frameReady = s.frameReady := by unfold State.removeOverlay; split <;> rfl
@[simp] theorem State.removeOverlay_report : s.removeOverlay.report = s.report := by unfold State.removeOverlay; split <;> rfl
@[simp] theorem State.removeOverlay_stopFlag : s.removeOverlay.stopFlag = s.stopFlag := by unfold State.removeOverlay; split <;> rfl
@[simp] theorem State.removeOverlay_cycles : s.removeOverlay.cycles = s.cycles := by unfold State.removeOverlay; split <;> rfl
@[simp] theorem State.removeOverlay_cfg : s.removeOverlay.cfg = s.cfg := by unfold State.removeOverlay; split <;> rfl
@[simp] theorem State.write8_regs : (s.write8 a v).regs = s.regs := by
  unfold State.write8; split <;> (try unfold State.writeReg; split) <;> first | rfl | simp
@[simp] theorem State.write8_ime : (s.write8 a v).ime = s.ime := by
  unfold State.write8; split <;> (try unfold State.writeReg; split) <;> first | rfl | simp
@[simp] theorem State.write8_iflag : (s.write8 a v).iflag = s.iflag := by
  unfold State.write8; split <;> (try unfold State.writeReg; split) <;> first | rfl | simp
@[simp] theorem State.write8_runState : (s.write8 a v).runState = s.runState := by
  unfold State.write8; split <;> (try unfold State.writeReg; split) <;> first | rfl | simp
@[simp] theorem State.write8_fatal : (s.write8 a v).fatal = s.fatal := by
  unfold State.write8; split <;> (try unfold State.writeReg; split) <;> first | rfl | simp
@[simp] theorem State.write8_ppu : (s.write8 a v).ppu = s.ppu := by
  unfold State.write8; split <;> (try unfold State.writeReg; split) <;> first | rfl | simp
@[simp] theorem State.write8_input : (s.write8 a v).input = s.input := by
  unfold State.write8; split <;> (try unfold State.writeReg; split) <;> first | rfl | simp
@[simp] theorem State.write8_hostQueue : (s.write8 a v).hostQueue = s.hostQueue := by
  unfold State.write8; split <;> (try unfold State.writeReg; split) <;> first | rfl | simp
@[simp] theorem State.write8_frameReady : (s.write8 a v).frameReady = s.frameReady := by
  unfold State.write8; split <;> (try unfold State.writeReg; split) <;> first | rfl | simp
@[simp] theorem State.write8_report : (s.write8 a v).report = s.report := by
  unfold State.write8; split <;> (try unfold State.writeReg; split) <;> first | rfl | simp
@[simp] theorem State.write8_stopFlag : (s.write8 a v).stopFlag = s.stopFlag := by
  unfold State.write8; split <;> (try unfold State.writeReg; split) <;> first | rfl | simp
@[simp] theorem State.write8_cycles : (s.write8 a v).cycles = s.cycles := by
  unfold State.write8; split <;> (try unfold State.writeReg; split) <;> first | rfl | simp
@[simp] theorem State.write8_cfg : (s.write8 a v).cfg = s.cfg := by
  unfold State.write8; split <;> (try unfold State.writeReg; split) <;> first | rfl | simp
@[simp] theorem State.write16_ime (w : Word) : (s.write16 a w).ime = s.ime := by simp [State.write16]
@[simp] theorem State.write16_iflag (w : Word) : (s.write16 a w).iflag = s.iflag := by simp [State.write16]
@[simp] theorem State.write16_runState (w : Word) : (s.write16 a w).runState = s.runState := by simp [State.write16]
@[simp] theorem State.write16_fatal (w : Word) : (s.write16 a w).fatal = s.fatal := by simp [State.write16]
@[simp] theorem State.write16_ppu (w : Word) : (s.write16 a w).ppu = s.ppu := by simp [State.write16]
@[simp] theorem State.write16_input (w : Word) : (s.write16 a w).input = s.input := by simp [State.write16]
@[simp] theorem State.write16_hostQueue (w : Word) : (s.write16 a w).hostQueue = s.hostQueue := by simp [State.write16]
@[simp] theorem State.write16_frameReady (w : Word) : (s.write16 a w).frameReady = s.frameReady := by simp [State.write16]
@[simp] theorem State.write16_report (w : Word) : (s.write16 a w).report = s.report := by simp [State.write16]
@[simp] theorem State.write16_stopFlag (w : Word) : (s.write16 a w).stopFlag = s.stopFlag := by simp [State.write16]
@[simp] theorem State.write16_cycles (w : Word) : (s.write16 a w).cycles = s.cycles := by simp [State.write16]
@[simp] theorem State.write16_cfg (w : Word) : (s.write16 a w).cfg = s.cfg := by simp [State.write16]
@[simp] theorem State.write16_regs (w : Word) : (s.write16 a w).regs = s.regs := by simp [State.write16]
@[simp] theorem State.push16_ime (w : Word) : (s.push16 w).ime = s.ime := by simp [State.push16, State.write16]
@[simp] theorem State.push16_iflag (w : Word) : (s.push16 w).iflag = s.iflag := by simp [State.push16, State.write16]
@[simp] theorem State.push16_runState (w : Word) : (s.push16 w).runState = s.runState := by simp [State.push16, State.write16]
@[simp] theorem State.push16_fatal (w : Word) : (s.push16 w).fatal = s.fatal := by simp [State.push16, State.write16]
@[simp] theorem State.push16_ppu (w : Word) : (s.push16 w).ppu = s.ppu := by simp [State.push16, State.write16]
@[simp] theorem State.push16_input (w : Word) : (s.push16 w).input = s.input := by simp [State.push16, State.write16]
@[simp] theorem State.push16_hostQueue (w : Word) : (s.push16 w).hostQueue = s.hostQueue := by simp [State.push16, State.write16]
@[simp] theorem State.push16_frameReady (w : Word) : (s.push16 w).frameReady = s.frameReady := by simp [State.push16, State.write16]
@[simp] theorem State.push16_report (w : Word) : (s.push16 w).report = s.report := by simp [State.push16, State.write16]
@[simp] theorem State.push16_stopFlag (w : Word) : (s.push16 w).stopFlag = s.stopFlag := by simp [State.push16, State.write16]
@[simp] theorem State.push16_cycles (w : Word) : (s.push16 w).cycles = s.cycles := by simp [State.push16, State.write16]
@[simp] theorem State.push16_cfg (w : Word) : (s.push16 w).cfg = s.cfg := by simp [State.push16, State.write16]
@[simp] theorem State.push16_regs (w : Word) : (s.push16 w).regs = { s.regs with sp := s.regs.sp - 2 } := by
  simp [State.push16, State.write16]

theorem State.write8_cell (h : targetOf a = .cell) : s.write8 a v = { s with mem := Memory.set s.mem a.toNat v } := by
  simp only [State.write8, h]

theorem State.write8_sentinel (h : targetOf a = .sentinel) : s.write8 a v = s := by simp only [State.write8, h]

theorem State.write8_reg {r : IoReg} (h : targetOf a = .reg r) : s.write8 a v = s.writeReg r v := by
  simp only [State.write8, h]

/-! ## Read after write -/

/-- What a read depends on. -/
theorem State.read8_congr {s t : State} (a : Word) (hm : t.mem = s.mem) (hio : t.io = s.io) (hp : t.ppu = s.ppu)
    (hif : t.iflag = s.iflag) (hie : t.ie = s.ie) (hin : t.input = s.input) : t.read8 a = s.read8 a := by
  simp only [State.read8, State.readReg, State.joyp, State.stat, hm, hio, hp, hif, hie, hin]

/-- A store to a stored byte reads back, and every other address reads as before (R67). -/
theorem State.read8_write8_cell (h : targetOf a = .cell) (x : Word) :
    (s.write8 a v).read8 x = if x = a then v else s.read8 x := by
  rw [State.write8_cell s a v h]
  by_cases hx : x = a
  · subst hx; simp [State.read8, h]
  · have hne : x.toNat ≠ a.toNat := fun e => hx (BitVec.eq_of_toNat_eq e)
    simp only [State.read8, Memory.get_set, hne, if_false, hx]
    rfl

/-- A write leaves every other address as it was, unless it is to `LYC`, `DMA` or `BOOT` (R78). -/
theorem State.read8_write8_other (h : a ∉ ([0xFF45, 0xFF46, 0xFF50] : List Word)) (x : Word) (hx : x ≠ a) :
    (s.write8 a v).read8 x = s.read8 x := by
  cases ht : targetOf a with
  | cell => simp [State.read8_write8_cell s a v ht, hx]
  | sentinel => rw [State.write8_sentinel s a v ht]
  | reg r =>
    have ha := eq_addr_of_target ht
    rw [State.write8_reg s a v ht]
    have hr : ∀ q, targetOf x = .reg q → q ≠ r := by
      rintro q hq rfl; exact hx ((eq_addr_of_target hq).trans ha.symm)
    have h1 : r ≠ .lyc := by rintro rfl; exact h (by simp [ha, IoReg.addr])
    have h2 : r ≠ .dma := by rintro rfl; exact h (by simp [ha, IoReg.addr])
    have h3 : r ≠ .boot := by rintro rfl; exact h (by simp [ha, IoReg.addr])
    simp only [State.read8]
    split
    · cases r <;> first | exact absurd rfl h2 | exact absurd rfl h3 | rfl
    · rfl
    · next q hq =>
      have hne := hr q hq
      cases r <;>
        first
        | exact absurd rfl h1
        | exact absurd rfl h2
        | exact absurd rfl h3
        | (cases q <;> first | exact absurd rfl hne | rfl)

/-- A write to `LYC` changes what `LYC` reads and the compare flag of `STAT`, and no other byte (R292, R294). -/
theorem State.read8_write8_lyc (x : Word) (hx : x ≠ 0xFF45) (hs : x ≠ 0xFF41) :
    (s.write8 0xFF45 v).read8 x = s.read8 x := by
  rw [State.write8_reg s 0xFF45 v (targetOf_addr .lyc)]
  simp only [State.read8]
  split
  · rfl
  · rfl
  · next q hq =>
    have hq' := eq_addr_of_target hq
    cases q <;> first | rfl | exact absurd hq' hx | exact absurd hq' hs

/-- The compare flag is the only bit of `STAT` that a write to `LYC` can change. -/
theorem State.read8_stat_write8_lyc (k : Nat) (hk : k ≠ 2) :
    bitOf ((s.write8 0xFF45 v).read8 0xFF41) k = bitOf (s.read8 0xFF41) k := by
  have compare : ∀ (p : Prop) [Decidable p], bitOf (if p then 4 else 0) k = false := by
    intro p _
    have four : bitOf 4 k = decide (k = 2) := by
      match k with
      | 0 | 1 | 2 | 3 | 4 | 5 | 6 | 7 => rfl
      | n + 8 => exact BitVec.getLsbD_of_ge _ _ (Nat.le_add_left _ _)
    split
    · simpa [hk] using four
    · exact BitVec.getLsbD_zero
  have stat : ∀ u : State, bitOf u.stat k = (bitOf (u.io.statSel &&& 0x78) k || bitOf u.ppu.mode.code k) := by
    intro u
    have h := compare (u.ppu.ly = u.io.lyc.toNat)
    simp only [bitOf] at h
    simp only [State.stat, bitOf, BitVec.getLsbD_or, h, Bool.or_false]
  rw [State.write8_reg s 0xFF45 v (targetOf_addr .lyc)]
  exact (stat _).trans (stat s).symm

/-- A write that has no effect beyond the byte and the compare flag (R78, R292) leaves every other address as it was,
`STAT` excepted where `LYC` is written. -/
theorem State.read8_write8_plain (hd : a ≠ 0xFF46) (hb : a ≠ 0xFF50) (x : Word) (hx : x ≠ a)
    (hs : x = 0xFF41 → a ≠ 0xFF45) : (s.write8 a v).read8 x = s.read8 x := by
  by_cases h : a = 0xFF45
  · subst h; exact State.read8_write8_lyc s v x hx (fun e => hs e rfl)
  · refine State.read8_write8_other s a v ?_ x hx
    simp only [List.mem_cons, List.not_mem_nil, or_false, not_or]
    exact ⟨h, hd, hb⟩

/-- Such a write changes no bit of `STAT` but the compare flag. -/
theorem State.read8_stat_write8_plain (hd : a ≠ 0xFF46) (hb : a ≠ 0xFF50) (hx : 0xFF41 ≠ a) (k : Nat) (hk : k ≠ 2) :
    bitOf ((s.write8 a v).read8 0xFF41) k = bitOf (s.read8 0xFF41) k := by
  by_cases h : a = 0xFF45
  · subst h; exact State.read8_stat_write8_lyc s v k hk
  · rw [State.read8_write8_plain s a v hd hb _ hx (fun _ => h)]

/-- A 16-bit write leaves every other address as it was, under the same condition on both bytes. -/
theorem State.read8_write16_other (w : Word) (h0 : a ∉ ([0xFF45, 0xFF46, 0xFF50] : List Word))
    (h1 : a + 1 ∉ ([0xFF45, 0xFF46, 0xFF50] : List Word)) (x : Word) (hx : x ≠ a) (hx' : x ≠ a + 1) :
    (s.write16 a w).read8 x = s.read8 x := by
  rw [State.write16, State.read8_write8_other _ _ _ h1 x hx', State.read8_write8_other _ _ _ h0 x hx]

/-- A write to an address other than `BOOT` leaves the overlay flag. -/
theorem State.write8_bootActive (h : a ≠ 0xFF50) : (s.write8 a v).bootActive = s.bootActive := by
  cases ht : targetOf a with
  | cell => rw [State.write8_cell s a v ht]
  | sentinel => rw [State.write8_sentinel s a v ht]
  | reg r =>
    have ha := eq_addr_of_target ht
    rw [State.write8_reg s a v ht]
    subst ha
    cases r <;> first | rfl | exact absurd rfl h

/-- The overlay flag is never set by a write (R39). -/
theorem State.write8_overlay (h : (s.write8 a v).bootActive = true) : s.bootActive = true := by
  by_cases ha : a = 0xFF50
  · subst ha
    rw [State.write8_reg s 0xFF50 v (targetOf_addr .boot)] at h
    simp only [State.writeReg, State.removeOverlay] at h
    split at h <;> simp_all
  · rwa [State.write8_bootActive s a v ha] at h

end Sys2Proof.Machine
end

