-- ==== Sys2Proof/Laws/Decode.lean ====
section
/-!
SUPPORT. What the decoding tables hold, entry by entry, and how the two forms of the decoder relate. The round trips
are proved from these without unfolding a table.
-/

namespace Sys2Proof

set_option maxRecDepth 4000 in
/-- Each entry makes well-formed instructions whose bytes begin with its own opcode byte (R102). -/
theorem primary_cases (op : Byte) :
    (∃ i, primary op = .op i ∧ i.wellFormed = true ∧ encode i = [op]) ∨
    (∃ f, primary op = .opByte f ∧ ∀ n, (f n).wellFormed = true ∧ encode (f n) = [op, n]) ∨
    (∃ f, primary op = .opWord f ∧
      ∀ nn, (f nn).wellFormed = true ∧ encode (f nn) = [op, Machine.lo8 nn, Machine.hi8 nn]) ∨
    (primary op = .page ∧ op = 0xCB) := by
  obtain ⟨k, hk, rfl⟩ : ∃ k, k < 256 ∧ op = BitVec.ofNat 8 k := ⟨op.toNat, op.isLt, by simp⟩
  interval_cases k <;>
    first
    | exact .inl ⟨_, rfl, rfl, rfl⟩
    | exact .inr (.inl ⟨_, rfl, fun _ => ⟨rfl, rfl⟩⟩)
    | exact .inr (.inr (.inl ⟨_, rfl, fun _ => ⟨rfl, rfl⟩⟩))
    | exact .inr (.inr (.inr ⟨rfl, rfl⟩))

set_option maxRecDepth 4000 in
theorem secondary_sound (op2 : Byte) :
    (secondary op2).wellFormed = true ∧ encode (secondary op2) = [0xCB, op2] := by
  revert op2; decide +kernel

theorem primary_prefix : primary 0xCB = .page := rfl

/-- The two halves of a word, put together again. -/
@[simp] theorem Machine.pair_halves (w : Word) : Machine.pair (Machine.hi8 w) (Machine.lo8 w) = w := by
  simp only [Machine.pair, Machine.hi8, Machine.lo8]; bv_omega

@[simp] theorem Machine.lo8_pair (h l : Byte) : Machine.lo8 (Machine.pair h l) = l := by
  simp only [Machine.pair, Machine.lo8]; bv_omega

@[simp] theorem Machine.hi8_pair (h l : Byte) : Machine.hi8 (Machine.pair h l) = h := by
  simp only [Machine.pair, Machine.hi8]; bv_omega

/-- `pair(h, l) = h × 256 + l` exactly (R11). -/
theorem Machine.pair_toNat (h l : Byte) : (Machine.pair h l).toNat = h.toNat * 256 + l.toNat := by
  simp only [Machine.pair]; bv_omega

end Sys2Proof
end

