-- ==== Sys2Proof/Laws/Exec.lean ====
section
/-!
SUPPORT. What an instruction can do, said once: every meaning answers a next state, and `Kept` holds between the state
it runs in and that state. One lemma per shared operation, then one for `exec`.
-/

namespace Sys2Proof.Machine

/-- A memory entry at the address of a stored byte. -/
def Stored (cell : Host.Cell) : Prop := cell.1 < 0x10000 ∧ targetOf (BitVec.ofNat 16 cell.1) = .cell

/-- What every instruction and every interrupt service keeps. -/
structure Kept (s t : State) : Prop where
  ppu : t.ppu = s.ppu
  input : t.input = s.input
  hostQueue : t.hostQueue = s.hostQueue
  frameReady : t.frameReady = s.frameReady
  report : t.report = s.report
  stopFlag : t.stopFlag = s.stopFlag
  cfg : t.cfg = s.cfg
  /-- A fatal record is never overwritten (R37). -/
  fatal : ∀ r, s.fatal = some r → t.fatal = some r
  /-- The overlay flag is never set (R39). -/
  overlay : t.bootActive = true → s.bootActive = true
  mem_wf : Memory.wf s.mem = true → Memory.wf t.mem = true
  mem_cells : ∀ cell ∈ t.mem, Stored cell ∨ cell ∈ s.mem
  stat_select : s.io.statSel &&& 0x87 = 0 → t.io.statSel &&& 0x87 = 0

theorem Kept.refl (s : State) : Kept s s :=
  ⟨rfl, rfl, rfl, rfl, rfl, rfl, rfl, fun _ h => h, id, id, fun _ h => .inr h, id⟩

theorem Kept.trans {s t u : State} (h : Kept s t) (k : Kept t u) : Kept s u where
  ppu := k.ppu.trans h.ppu
  input := k.input.trans h.input
  hostQueue := k.hostQueue.trans h.hostQueue
  frameReady := k.frameReady.trans h.frameReady
  report := k.report.trans h.report
  stopFlag := k.stopFlag.trans h.stopFlag
  cfg := k.cfg.trans h.cfg
  fatal := fun r hr => k.fatal r (h.fatal r hr)
  overlay := fun hu => h.overlay (k.overlay hu)
  mem_wf := fun hm => k.mem_wf (h.mem_wf hm)
  mem_cells := fun c hc => (k.mem_cells c hc).elim .inl (h.mem_cells c)
  stat_select := fun hs => k.stat_select (h.stat_select hs)

/-- A change of registers, `IME`, the request byte, the run state or the cycle count alone. -/
theorem Kept.of_processor {s t : State}
    (h : t = { s with regs := t.regs, ime := t.ime, iflag := t.iflag, runState := t.runState, cycles := t.cycles }) :
    Kept s t := by
  rw [h]; exact ⟨rfl, rfl, rfl, rfl, rfl, rfl, rfl, fun _ h => h, id, id, fun _ h => .inr h, id⟩

/-- A change of memory alone, to a canonical memory that lists stored bytes. -/
theorem Kept.of_memory (s : State) (m : Memory) (hm : Memory.wf s.mem = true → Memory.wf m = true)
    (hc : ∀ cell ∈ m, Stored cell ∨ cell ∈ s.mem) : Kept s { s with mem := m } :=
  ⟨rfl, rfl, rfl, rfl, rfl, rfl, rfl, fun _ h => h, id, hm, hc, id⟩

/-- A change of the I/O registers that keeps the unused bits of `STATsel` clear, and of `IE`. -/
theorem Kept.of_io (s : State) (io : IoRegs) (ie : Byte) (h : s.io.statSel &&& 0x87 = 0 → io.statSel &&& 0x87 = 0) :
    Kept s { s with io := io, ie := ie } :=
  ⟨rfl, rfl, rfl, rfl, rfl, rfl, rfl, fun _ h => h, id, id, fun _ h => .inr h, h⟩

/-- A state that differs only in its registers, its `IME`, its request byte, its run state and its cycles is kept
after `t` as well. -/
theorem Kept.then_processor {s t u : State} (h : Kept s t)
    (e : u = { t with regs := u.regs, ime := u.ime, iflag := u.iflag, runState := u.runState, cycles := u.cycles }) :
    Kept s u := h.trans (Kept.of_processor e)

theorem Stored.of_target {a : Word} (h : targetOf a = .cell) (v : Byte) : Stored (a.toNat, v) := by
  refine ⟨a.isLt, ?_⟩
  simpa using h

theorem Stored.of_nat {cell : Host.Cell} (h : cell.1 < 0x100 ∨ (0xFE00 ≤ cell.1 ∧ cell.1 < 0xFEA0)) : Stored cell := by
  refine ⟨by omega, targetOf_cell_of_region ?_⟩
  have hn : (BitVec.ofNat 16 cell.1).toNat = cell.1 := by simp; omega
  rcases h with h | h
  · rw [regionOf_rom.2 (by omega)]; simp
  · rw [regionOf_oam.2 (by omega)]; simp

theorem Kept.oamCopy (s : State) (v : Byte) : Kept s (s.oamCopy v) := by
  unfold State.oamCopy
  dsimp only
  refine Kept.of_memory s _ (fun h => Memory.wf_copy _ _ h) fun cell hc => ?_
  refine (Memory.mem_copy hc).imp (fun h => Stored.of_nat (.inr ?_)) id
  have h2 := h.2
  rw [List.length_map, List.length_range] at h2
  exact ⟨h.1, h2⟩

theorem Kept.removeOverlay (s : State) : Kept s s.removeOverlay := by
  unfold State.removeOverlay
  split
  · refine Kept.trans (Kept.of_memory s _ (fun h => Memory.wf_copy 0 _ h) fun cell hc => ?_)
      ⟨rfl, rfl, rfl, rfl, rfl, rfl, rfl, fun _ h => h, fun h => by simp at h, id, fun _ h => .inr h, id⟩
    refine (Memory.mem_copy hc).imp (fun h => Stored.of_nat (.inl ?_)) id
    have h2 := h.2
    rw [Memory.length_slice] at h2
    omega
  · exact Kept.refl s

theorem and_stat_select : ∀ v : Byte, v &&& 0x78 &&& 0x87 = 0 := by decide

theorem Kept.writeReg (s : State) (r : IoReg) (v : Byte) : Kept s (s.writeReg r v) := by
  cases r
  case dma =>
    have h := Kept.oamCopy ({ s with io.dma := v } : State) v
    exact Kept.trans (Kept.of_io s { s.io with dma := v } s.ie id) h
  case boot =>
    have h := Kept.removeOverlay ({ s with io.boot := v } : State)
    exact Kept.trans (Kept.of_io s { s.io with boot := v } s.ie id) h
  case stat => exact Kept.of_io s _ s.ie fun _ => and_stat_select v
  case iflag => exact Kept.refl s
  case ly => exact Kept.refl s
  all_goals exact Kept.of_io s _ _ id

theorem Kept.write8 (s : State) (a : Word) (v : Byte) : Kept s (s.write8 a v) := by
  unfold State.write8
  split
  · next h =>
    refine Kept.of_memory s _ (fun hm => Memory.wf_set _ _ hm) fun cell hc => ?_
    refine (Memory.mem_set hc).imp (fun e => ?_) id
    have : cell = (a.toNat, cell.2) := by rw [← e]
    rw [this]
    exact Stored.of_target h _
  · exact Kept.refl s
  · exact Kept.writeReg s _ v

theorem Kept.write16 (s : State) (a w : Word) : Kept s (s.write16 a w) := (Kept.write8 s _ _).trans (Kept.write8 _ _ _)

theorem Kept.push16 (s : State) (w : Word) : Kept s (s.push16 w) :=
  Kept.trans (Kept.of_processor rfl) (Kept.write16 _ _ _)

theorem Kept.serviceInterrupt (p : Byte) (s : State) : Kept s (serviceInterrupt p s) :=
  Kept.then_processor (Kept.trans (Kept.of_processor rfl) (Kept.push16 _ _)) rfl

/-- A meaning that answers a next state and keeps what every instruction keeps. -/
def Runs (s : State) (o : Result) : Prop := ∃ t, o = .next t ∧ Kept s t

theorem finish_runs (k : Nat) {s t : State} (h : Kept s t) : Runs s (finish k t) :=
  ⟨_, rfl, h.then_processor rfl⟩

theorem finish_processor (k : Nat) {s t : State}
    (e : t = { s with regs := t.regs, ime := t.ime, iflag := t.iflag, runState := t.runState, cycles := t.cycles }) :
    Runs s (finish k t) := finish_runs k (Kept.of_processor e)

theorem setReg_only (s : State) (r : Reg8) (v : Byte) : s.setReg r v = { s with regs := (s.setReg r v).regs } := by
  cases r <;> rfl

theorem setRr_only (s : State) (p : Reg16) (w : Word) : s.setRr p w = { s with regs := (s.setRr p w).regs } := by
  cases p <;> rfl

theorem setQq_only (s : State) (p : StackPair) (w : Word) : s.setQq p w = { s with regs := (s.setQq p w).regs } := by
  cases p <;> rfl

theorem Kept.setReg (s : State) (r : Reg8) (v : Byte) : Kept s (s.setReg r v) := by
  rw [setReg_only]; exact Kept.of_processor rfl

theorem Kept.setRr (s : State) (p : Reg16) (w : Word) : Kept s (s.setRr p w) := by
  rw [setRr_only]; exact Kept.of_processor rfl

theorem Kept.setQq (s : State) (p : StackPair) (w : Word) : Kept s (s.setQq p w) := by
  rw [setQq_only]; exact Kept.of_processor rfl

/-! ## One lemma per shared operation -/

section
variable (s : State)

theorem loadReg_runs (dst src : Reg8) : Runs s (loadReg dst src s) := finish_runs _ (Kept.setReg s _ _)
theorem loadImm_runs (dst : Reg8) (n : Byte) : Runs s (loadImm dst n s) := finish_runs _ (Kept.setReg s _ _)
theorem loadMem_runs (dst : Reg8) (a : Word) (k : Nat) : Runs s (loadMem dst a k s) := finish_runs _ (Kept.setReg s _ _)
theorem storeMem_runs (a : Word) (v : Byte) (k : Nat) : Runs s (storeMem a v k s) := finish_runs _ (Kept.write8 s _ _)
theorem loadAHlStep_runs (w : Word) : Runs s (loadAHlStep w s) := finish_processor _ rfl
theorem storeAHlStep_runs (w : Word) : Runs s (storeAHlStep w s) :=
  finish_runs _ ((Kept.write8 s _ _).then_processor rfl)
theorem loadPairImm_runs (p : Reg16) (nn : Word) : Runs s (loadPairImm p nn s) := finish_runs _ (Kept.setRr s _ _)
theorem storeSp_runs (nn : Word) : Runs s (storeSp nn s) := finish_runs _ (Kept.write16 s _ _)
theorem loadSpHl_runs : Runs s (loadSpHl s) := finish_processor _ rfl
theorem loadHlSpDisp_runs (e : Byte) : Runs s (loadHlSpDisp e s) := finish_processor _ rfl
theorem pushPair_runs (p : StackPair) : Runs s (pushPair p s) := finish_runs _ (Kept.push16 s _)
theorem popPair_runs (p : StackPair) : Runs s (popPair p s) :=
  finish_runs _ (Kept.trans (Kept.of_processor rfl) (Kept.setQq _ _ _))
theorem aluReg_runs (op : AluOp) (r : Reg8) : Runs s (aluReg op r s) := finish_processor _ rfl
theorem aluMem_runs (op : AluOp) : Runs s (aluMem op s) := finish_processor _ rfl
theorem aluImm_runs (op : AluOp) (n : Byte) : Runs s (aluImm op n s) := finish_processor _ rfl
theorem incReg_runs (r : Reg8) : Runs s (incReg r s) := finish_runs _ ((Kept.setReg s _ _).then_processor rfl)
theorem decReg_runs (r : Reg8) : Runs s (decReg r s) := finish_runs _ ((Kept.setReg s _ _).then_processor rfl)
theorem incMem_runs : Runs s (incMem s) := finish_runs _ ((Kept.write8 s _ _).then_processor rfl)
theorem decMem_runs : Runs s (decMem s) := finish_runs _ ((Kept.write8 s _ _).then_processor rfl)
theorem adjustA_runs : Runs s (adjustA s) := finish_processor _ rfl
theorem complementA_runs : Runs s (complementA s) := finish_processor _ rfl
theorem setCarry_runs : Runs s (setCarry s) := finish_processor _ rfl
theorem flipCarry_runs : Runs s (flipCarry s) := finish_processor _ rfl
theorem addHl_runs (p : Reg16) : Runs s (addHl p s) := finish_processor _ rfl
theorem incPair_runs (p : Reg16) : Runs s (incPair p s) := finish_runs _ (Kept.setRr s _ _)
theorem decPair_runs (p : Reg16) : Runs s (decPair p s) := finish_runs _ (Kept.setRr s _ _)
theorem addSp_runs (e : Byte) : Runs s (addSp e s) := finish_processor _ rfl
theorem rotAcc_runs (op : RotOp) : Runs s (rotAcc op s) := finish_processor _ rfl
theorem rotReg_runs (op : RotOp) (r : Reg8) : Runs s (rotReg op r s) :=
  finish_runs _ ((Kept.setReg s _ _).then_processor rfl)
theorem rotMem_runs (op : RotOp) : Runs s (rotMem op s) := finish_runs _ ((Kept.write8 s _ _).then_processor rfl)
theorem bitReg_runs (b : Nat) (r : Reg8) : Runs s (bitReg b r s) := finish_processor _ rfl
theorem bitMem_runs (b : Nat) : Runs s (bitMem b s) := finish_processor _ rfl
theorem resReg_runs (b : Nat) (r : Reg8) : Runs s (resReg b r s) := finish_runs _ (Kept.setReg s _ _)
theorem resMem_runs (b : Nat) : Runs s (resMem b s) := finish_runs _ (Kept.write8 s _ _)
theorem setReg_runs (b : Nat) (r : Reg8) : Runs s (setReg b r s) := finish_runs _ (Kept.setReg s _ _)
theorem setMem_runs (b : Nat) : Runs s (setMem b s) := finish_runs _ (Kept.write8 s _ _)
theorem jump_runs (w : Word) (k : Nat) : Runs s (jump w k s) := finish_processor _ rfl
theorem jumpIf_runs (cc : Cond) (nn : Word) : Runs s (jumpIf cc nn s) := by
  unfold jumpIf; split
  · exact jump_runs s _ _
  · exact finish_processor _ rfl
theorem jumpRel_runs (e : Byte) : Runs s (jumpRel e s) := jump_runs s _ _
theorem jumpRelIf_runs (cc : Cond) (e : Byte) : Runs s (jumpRelIf cc e s) := by
  unfold jumpRelIf; split
  · exact jumpRel_runs s _
  · exact finish_processor _ rfl
theorem call_runs (w : Word) (k : Nat) : Runs s (call w k s) := finish_runs _ ((Kept.push16 s _).then_processor rfl)
theorem callIf_runs (cc : Cond) (nn : Word) : Runs s (callIf cc nn s) := by
  unfold callIf; split
  · exact call_runs s _ _
  · exact finish_processor _ rfl
theorem popPc_runs (k : Nat) : Runs s (popPc k s) := finish_processor _ rfl
theorem ret_runs : Runs s (ret s) := popPc_runs s _
theorem retIf_runs (cc : Cond) : Runs s (retIf cc s) := by
  unfold retIf; split
  · exact popPc_runs s _
  · exact finish_processor _ rfl
theorem retInterrupt_runs : Runs s (retInterrupt s) := finish_processor _ rfl
theorem nothing_runs (k : Nat) : Runs s (finish k s) := finish_processor _ rfl
theorem enterRun_runs (r : RunState) : Runs s (enterRun r s) := finish_processor _ rfl
theorem setIme_runs (b : Bool) : Runs s (setIme b s) := finish_processor _ rfl
theorem execSecondary_runs (op2 : Byte) : Runs s (execSecondary op2 s) := by
  unfold execSecondary
  cases Reg8.ofCode (op2.toNat % 8) with
  | some r =>
    dsimp only; split
    · exact rotReg_runs s _ _
    · exact bitReg_runs s _ _
    · exact resReg_runs s _ _
    · exact setReg_runs s _ _
  | none =>
    dsimp only; split
    · exact rotMem_runs s _
    · exact bitMem_runs s _
    · exact resMem_runs s _
    · exact setMem_runs s _
theorem runSecondary_runs : Runs s (runSecondary s) := by
  obtain ⟨t, ht, hk⟩ := execSecondary_runs (s.setPc (s.regs.pc + 1)) (s.read8 s.regs.pc)
  exact ⟨t, ht, Kept.trans (Kept.of_processor rfl) hk⟩
theorem unknownOpcode_runs (op : Byte) : Runs s (unknownOpcode op s) := by
  refine finish_runs _ ?_
  unfold raiseFatal
  split
  · next h =>
    exact ⟨rfl, rfl, rfl, rfl, rfl, rfl, rfl, fun _ e => by simp [h] at e, id, id, fun _ h => .inr h, id⟩
  · exact Kept.refl s

end

/-- Every instruction answers a next state and keeps what `Kept` lists. -/
theorem exec_runs (i : Instr) (s : State) : Runs s (exec i s) :=
  match i with
  | .ldBcNn _ => loadPairImm_runs s _ _
  | .ldBN _ => loadImm_runs s _ _
  | .ldAtNnSp _ => storeSp_runs s _
  | .ldCN _ => loadImm_runs s _ _
  | .stop _ => enterRun_runs s _
  | .ldDeNn _ => loadPairImm_runs s _ _
  | .ldDN _ => loadImm_runs s _ _
  | .jrDisp _ => jumpRel_runs s _
  | .ldEN _ => loadImm_runs s _ _
  | .jrNzDisp _ => jumpRelIf_runs s _ _
  | .ldHlNn _ => loadPairImm_runs s _ _
  | .ldHN _ => loadImm_runs s _ _
  | .jrZDisp _ => jumpRelIf_runs s _ _
  | .ldLN _ => loadImm_runs s _ _
  | .jrNcDisp _ => jumpRelIf_runs s _ _
  | .ldSpNn _ => loadPairImm_runs s _ _
  | .ldAtHlN _ => storeMem_runs s _ _ _
  | .jrCDisp _ => jumpRelIf_runs s _ _
  | .ldAN _ => loadImm_runs s _ _
  | .jpNzNn _ => jumpIf_runs s _ _
  | .jpNn _ => jump_runs s _ _
  | .callNzNn _ => callIf_runs s _ _
  | .addAN _ => aluImm_runs s _ _
  | .jpZNn _ => jumpIf_runs s _ _
  | .callZNn _ => callIf_runs s _ _
  | .callNn _ => call_runs s _ _
  | .adcAN _ => aluImm_runs s _ _
  | .jpNcNn _ => jumpIf_runs s _ _
  | .illegal _ => unknownOpcode_runs s _
  | .callNcNn _ => callIf_runs s _ _
  | .subN _ => aluImm_runs s _ _
  | .jpCNn _ => jumpIf_runs s _ _
  | .callCNn _ => callIf_runs s _ _
  | .sbcAN _ => aluImm_runs s _ _
  | .ldhAtNA _ => storeMem_runs s _ _ _
  | .andN _ => aluImm_runs s _ _
  | .addSpDisp _ => addSp_runs s _
  | .ldAtNnA _ => storeMem_runs s _ _ _
  | .xorN _ => aluImm_runs s _ _
  | .ldhAAtN _ => loadMem_runs s _ _ _
  | .orN _ => aluImm_runs s _ _
  | .ldHlSpDisp _ => loadHlSpDisp_runs s _
  | .ldAAtNn _ => loadMem_runs s _ _ _
  | .cpN _ => aluImm_runs s _ _
  | .nop => nothing_runs s _
  | .ldAtBcA => storeMem_runs s _ _ _
  | .incBc => incPair_runs s _
  | .incB => incReg_runs s _
  | .decB => decReg_runs s _
  | .rlca => rotAcc_runs s _
  | .addHlBc => addHl_runs s _
  | .ldAAtBc => loadMem_runs s _ _ _
  | .decBc => decPair_runs s _
  | .incC => incReg_runs s _
  | .decC => decReg_runs s _
  | .rrca => rotAcc_runs s _
  | .ldAtDeA => storeMem_runs s _ _ _
  | .incDe => incPair_runs s _
  | .incD => incReg_runs s _
  | .decD => decReg_runs s _
  | .rla => rotAcc_runs s _
  | .addHlDe => addHl_runs s _
  | .ldAAtDe => loadMem_runs s _ _ _
  | .decDe => decPair_runs s _
  | .incE => incReg_runs s _
  | .decE => decReg_runs s _
  | .rra => rotAcc_runs s _
  | .ldAtHlIncA => storeAHlStep_runs s _
  | .incHl => incPair_runs s _
  | .incH => incReg_runs s _
  | .decH => decReg_runs s _
  | .daa => adjustA_runs s
  | .addHlHl => addHl_runs s _
  | .ldAAtHlInc => loadAHlStep_runs s _
  | .decHl => decPair_runs s _
  | .incL => incReg_runs s _
  | .decL => decReg_runs s _
  | .cpl => complementA_runs s
  | .ldAtHlDecA => storeAHlStep_runs s _
  | .incSp => incPair_runs s _
  | .incAtHl => incMem_runs s
  | .decAtHl => decMem_runs s
  | .scf => setCarry_runs s
  | .addHlSp => addHl_runs s _
  | .ldAAtHlDec => loadAHlStep_runs s _
  | .decSp => decPair_runs s _
  | .incA => incReg_runs s _
  | .decA => decReg_runs s _
  | .ccf => flipCarry_runs s
  | .ldBB => loadReg_runs s _ _
  | .ldBC => loadReg_runs s _ _
  | .ldBD => loadReg_runs s _ _
  | .ldBE => loadReg_runs s _ _
  | .ldBH => loadReg_runs s _ _
  | .ldBL => loadReg_runs s _ _
  | .ldBAtHl => loadMem_runs s _ _ _
  | .ldBA => loadReg_runs s _ _
  | .ldCB => loadReg_runs s _ _
  | .ldCC => loadReg_runs s _ _
  | .ldCD => loadReg_runs s _ _
  | .ldCE => loadReg_runs s _ _
  | .ldCH => loadReg_runs s _ _
  | .ldCL => loadReg_runs s _ _
  | .ldCAtHl => loadMem_runs s _ _ _
  | .ldCA => loadReg_runs s _ _
  | .ldDB => loadReg_runs s _ _
  | .ldDC => loadReg_runs s _ _
  | .ldDD => loadReg_runs s _ _
  | .ldDE => loadReg_runs s _ _
  | .ldDH => loadReg_runs s _ _
  | .ldDL => loadReg_runs s _ _
  | .ldDAtHl => loadMem_runs s _ _ _
  | .ldDA => loadReg_runs s _ _
  | .ldEB => loadReg_runs s _ _
  | .ldEC => loadReg_runs s _ _
  | .ldED => loadReg_runs s _ _
  | .ldEE => loadReg_runs s _ _
  | .ldEH => loadReg_runs s _ _
  | .ldEL => loadReg_runs s _ _
  | .ldEAtHl => loadMem_runs s _ _ _
  | .ldEA => loadReg_runs s _ _
  | .ldHB => loadReg_runs s _ _
  | .ldHC => loadReg_runs s _ _
  | .ldHD => loadReg_runs s _ _
  | .ldHE => loadReg_runs s _ _
  | .ldHH => loadReg_runs s _ _
  | .ldHL => loadReg_runs s _ _
  | .ldHAtHl => loadMem_runs s _ _ _
  | .ldHA => loadReg_runs s _ _
  | .ldLB => loadReg_runs s _ _
  | .ldLC => loadReg_runs s _ _
  | .ldLD => loadReg_runs s _ _
  | .ldLE => loadReg_runs s _ _
  | .ldLH => loadReg_runs s _ _
  | .ldLL => loadReg_runs s _ _
  | .ldLAtHl => loadMem_runs s _ _ _
  | .ldLA => loadReg_runs s _ _
  | .ldAtHlB => storeMem_runs s _ _ _
  | .ldAtHlC => storeMem_runs s _ _ _
  | .ldAtHlD => storeMem_runs s _ _ _
  | .ldAtHlE => storeMem_runs s _ _ _
  | .ldAtHlH => storeMem_runs s _ _ _
  | .ldAtHlL => storeMem_runs s _ _ _
  | .halt => enterRun_runs s _
  | .ldAtHlA => storeMem_runs s _ _ _
  | .ldAB => loadReg_runs s _ _
  | .ldAC => loadReg_runs s _ _
  | .ldAD => loadReg_runs s _ _
  | .ldAE => loadReg_runs s _ _
  | .ldAH => loadReg_runs s _ _
  | .ldAL => loadReg_runs s _ _
  | .ldAAtHl => loadMem_runs s _ _ _
  | .ldAA => loadReg_runs s _ _
  | .addAB => aluReg_runs s _ _
  | .addAC => aluReg_runs s _ _
  | .addAD => aluReg_runs s _ _
  | .addAE => aluReg_runs s _ _
  | .addAH => aluReg_runs s _ _
  | .addAL => aluReg_runs s _ _
  | .addAAtHl => aluMem_runs s _
  | .addAA => aluReg_runs s _ _
  | .adcAB => aluReg_runs s _ _
  | .adcAC => aluReg_runs s _ _
  | .adcAD => aluReg_runs s _ _
  | .adcAE => aluReg_runs s _ _
  | .adcAH => aluReg_runs s _ _
  | .adcAL => aluReg_runs s _ _
  | .adcAAtHl => aluMem_runs s _
  | .adcAA => aluReg_runs s _ _
  | .subB => aluReg_runs s _ _
  | .subC => aluReg_runs s _ _
  | .subD => aluReg_runs s _ _
  | .subE => aluReg_runs s _ _
  | .subH => aluReg_runs s _ _
  | .subL => aluReg_runs s _ _
  | .subAtHl => aluMem_runs s _
  | .subA => aluReg_runs s _ _
  | .sbcAB => aluReg_runs s _ _
  | .sbcAC => aluReg_runs s _ _
  | .sbcAD => aluReg_runs s _ _
  | .sbcAE => aluReg_runs s _ _
  | .sbcAH => aluReg_runs s _ _
  | .sbcAL => aluReg_runs s _ _
  | .sbcAAtHl => aluMem_runs s _
  | .sbcAA => aluReg_runs s _ _
  | .andB => aluReg_runs s _ _
  | .andC => aluReg_runs s _ _
  | .andD => aluReg_runs s _ _
  | .andE => aluReg_runs s _ _
  | .andH => aluReg_runs s _ _
  | .andL => aluReg_runs s _ _
  | .andAtHl => aluMem_runs s _
  | .andA => aluReg_runs s _ _
  | .xorB => aluReg_runs s _ _
  | .xorC => aluReg_runs s _ _
  | .xorD => aluReg_runs s _ _
  | .xorE => aluReg_runs s _ _
  | .xorH => aluReg_runs s _ _
  | .xorL => aluReg_runs s _ _
  | .xorAtHl => aluMem_runs s _
  | .xorA => aluReg_runs s _ _
  | .orB => aluReg_runs s _ _
  | .orC => aluReg_runs s _ _
  | .orD => aluReg_runs s _ _
  | .orE => aluReg_runs s _ _
  | .orH => aluReg_runs s _ _
  | .orL => aluReg_runs s _ _
  | .orAtHl => aluMem_runs s _
  | .orA => aluReg_runs s _ _
  | .cpB => aluReg_runs s _ _
  | .cpC => aluReg_runs s _ _
  | .cpD => aluReg_runs s _ _
  | .cpE => aluReg_runs s _ _
  | .cpH => aluReg_runs s _ _
  | .cpL => aluReg_runs s _ _
  | .cpAtHl => aluMem_runs s _
  | .cpA => aluReg_runs s _ _
  | .retNz => retIf_runs s _
  | .popBc => popPair_runs s _
  | .pushBc => pushPair_runs s _
  | .rst00 => call_runs s _ _
  | .retZ => retIf_runs s _
  | .ret => ret_runs s
  | .prefixCb => runSecondary_runs s
  | .rst08 => call_runs s _ _
  | .retNc => retIf_runs s _
  | .popDe => popPair_runs s _
  | .pushDe => pushPair_runs s _
  | .rst10 => call_runs s _ _
  | .retC => retIf_runs s _
  | .reti => retInterrupt_runs s
  | .rst18 => call_runs s _ _
  | .popHl => popPair_runs s _
  | .ldhAtCA => storeMem_runs s _ _ _
  | .pushHl => pushPair_runs s _
  | .rst20 => call_runs s _ _
  | .jpHl => jump_runs s _ _
  | .rst28 => call_runs s _ _
  | .popAf => popPair_runs s _
  | .ldhAAtC => loadMem_runs s _ _ _
  | .di => setIme_runs s _
  | .pushAf => pushPair_runs s _
  | .rst30 => call_runs s _ _
  | .ldSpHl => loadSpHl_runs s
  | .ei => setIme_runs s _
  | .rst38 => call_runs s _ _
  | .rlcB => rotReg_runs s _ _
  | .rlcC => rotReg_runs s _ _
  | .rlcD => rotReg_runs s _ _
  | .rlcE => rotReg_runs s _ _
  | .rlcH => rotReg_runs s _ _
  | .rlcL => rotReg_runs s _ _
  | .rlcAtHl => rotMem_runs s _
  | .rlcA => rotReg_runs s _ _
  | .rrcB => rotReg_runs s _ _
  | .rrcC => rotReg_runs s _ _
  | .rrcD => rotReg_runs s _ _
  | .rrcE => rotReg_runs s _ _
  | .rrcH => rotReg_runs s _ _
  | .rrcL => rotReg_runs s _ _
  | .rrcAtHl => rotMem_runs s _
  | .rrcA => rotReg_runs s _ _
  | .rlB => rotReg_runs s _ _
  | .rlC => rotReg_runs s _ _
  | .rlD => rotReg_runs s _ _
  | .rlE => rotReg_runs s _ _
  | .rlH => rotReg_runs s _ _
  | .rlL => rotReg_runs s _ _
  | .rlAtHl => rotMem_runs s _
  | .rlA => rotReg_runs s _ _
  | .rrB => rotReg_runs s _ _
  | .rrC => rotReg_runs s _ _
  | .rrD => rotReg_runs s _ _
  | .rrE => rotReg_runs s _ _
  | .rrH => rotReg_runs s _ _
  | .rrL => rotReg_runs s _ _
  | .rrAtHl => rotMem_runs s _
  | .rrA => rotReg_runs s _ _
  | .slaB => rotReg_runs s _ _
  | .slaC => rotReg_runs s _ _
  | .slaD => rotReg_runs s _ _
  | .slaE => rotReg_runs s _ _
  | .slaH => rotReg_runs s _ _
  | .slaL => rotReg_runs s _ _
  | .slaAtHl => rotMem_runs s _
  | .slaA => rotReg_runs s _ _
  | .sraB => rotReg_runs s _ _
  | .sraC => rotReg_runs s _ _
  | .sraD => rotReg_runs s _ _
  | .sraE => rotReg_runs s _ _
  | .sraH => rotReg_runs s _ _
  | .sraL => rotReg_runs s _ _
  | .sraAtHl => rotMem_runs s _
  | .sraA => rotReg_runs s _ _
  | .swapB => rotReg_runs s _ _
  | .swapC => rotReg_runs s _ _
  | .swapD => rotReg_runs s _ _
  | .swapE => rotReg_runs s _ _
  | .swapH => rotReg_runs s _ _
  | .swapL => rotReg_runs s _ _
  | .swapAtHl => rotMem_runs s _
  | .swapA => rotReg_runs s _ _
  | .srlB => rotReg_runs s _ _
  | .srlC => rotReg_runs s _ _
  | .srlD => rotReg_runs s _ _
  | .srlE => rotReg_runs s _ _
  | .srlH => rotReg_runs s _ _
  | .srlL => rotReg_runs s _ _
  | .srlAtHl => rotMem_runs s _
  | .srlA => rotReg_runs s _ _
  | .bit0B => bitReg_runs s _ _
  | .bit0C => bitReg_runs s _ _
  | .bit0D => bitReg_runs s _ _
  | .bit0E => bitReg_runs s _ _
  | .bit0H => bitReg_runs s _ _
  | .bit0L => bitReg_runs s _ _
  | .bit0AtHl => bitMem_runs s _
  | .bit0A => bitReg_runs s _ _
  | .bit1B => bitReg_runs s _ _
  | .bit1C => bitReg_runs s _ _
  | .bit1D => bitReg_runs s _ _
  | .bit1E => bitReg_runs s _ _
  | .bit1H => bitReg_runs s _ _
  | .bit1L => bitReg_runs s _ _
  | .bit1AtHl => bitMem_runs s _
  | .bit1A => bitReg_runs s _ _
  | .bit2B => bitReg_runs s _ _
  | .bit2C => bitReg_runs s _ _
  | .bit2D => bitReg_runs s _ _
  | .bit2E => bitReg_runs s _ _
  | .bit2H => bitReg_runs s _ _
  | .bit2L => bitReg_runs s _ _
  | .bit2AtHl => bitMem_runs s _
  | .bit2A => bitReg_runs s _ _
  | .bit3B => bitReg_runs s _ _
  | .bit3C => bitReg_runs s _ _
  | .bit3D => bitReg_runs s _ _
  | .bit3E => bitReg_runs s _ _
  | .bit3H => bitReg_runs s _ _
  | .bit3L => bitReg_runs s _ _
  | .bit3AtHl => bitMem_runs s _
  | .bit3A => bitReg_runs s _ _
  | .bit4B => bitReg_runs s _ _
  | .bit4C => bitReg_runs s _ _
  | .bit4D => bitReg_runs s _ _
  | .bit4E => bitReg_runs s _ _
  | .bit4H => bitReg_runs s _ _
  | .bit4L => bitReg_runs s _ _
  | .bit4AtHl => bitMem_runs s _
  | .bit4A => bitReg_runs s _ _
  | .bit5B => bitReg_runs s _ _
  | .bit5C => bitReg_runs s _ _
  | .bit5D => bitReg_runs s _ _
  | .bit5E => bitReg_runs s _ _
  | .bit5H => bitReg_runs s _ _
  | .bit5L => bitReg_runs s _ _
  | .bit5AtHl => bitMem_runs s _
  | .bit5A => bitReg_runs s _ _
  | .bit6B => bitReg_runs s _ _
  | .bit6C => bitReg_runs s _ _
  | .bit6D => bitReg_runs s _ _
  | .bit6E => bitReg_runs s _ _
  | .bit6H => bitReg_runs s _ _
  | .bit6L => bitReg_runs s _ _
  | .bit6AtHl => bitMem_runs s _
  | .bit6A => bitReg_runs s _ _
  | .bit7B => bitReg_runs s _ _
  | .bit7C => bitReg_runs s _ _
  | .bit7D => bitReg_runs s _ _
  | .bit7E => bitReg_runs s _ _
  | .bit7H => bitReg_runs s _ _
  | .bit7L => bitReg_runs s _ _
  | .bit7AtHl => bitMem_runs s _
  | .bit7A => bitReg_runs s _ _
  | .res0B => resReg_runs s _ _
  | .res0C => resReg_runs s _ _
  | .res0D => resReg_runs s _ _
  | .res0E => resReg_runs s _ _
  | .res0H => resReg_runs s _ _
  | .res0L => resReg_runs s _ _
  | .res0AtHl => resMem_runs s _
  | .res0A => resReg_runs s _ _
  | .res1B => resReg_runs s _ _
  | .res1C => resReg_runs s _ _
  | .res1D => resReg_runs s _ _
  | .res1E => resReg_runs s _ _
  | .res1H => resReg_runs s _ _
  | .res1L => resReg_runs s _ _
  | .res1AtHl => resMem_runs s _
  | .res1A => resReg_runs s _ _
  | .res2B => resReg_runs s _ _
  | .res2C => resReg_runs s _ _
  | .res2D => resReg_runs s _ _
  | .res2E => resReg_runs s _ _
  | .res2H => resReg_runs s _ _
  | .res2L => resReg_runs s _ _
  | .res2AtHl => resMem_runs s _
  | .res2A => resReg_runs s _ _
  | .res3B => resReg_runs s _ _
  | .res3C => resReg_runs s _ _
  | .res3D => resReg_runs s _ _
  | .res3E => resReg_runs s _ _
  | .res3H => resReg_runs s _ _
  | .res3L => resReg_runs s _ _
  | .res3AtHl => resMem_runs s _
  | .res3A => resReg_runs s _ _
  | .res4B => resReg_runs s _ _
  | .res4C => resReg_runs s _ _
  | .res4D => resReg_runs s _ _
  | .res4E => resReg_runs s _ _
  | .res4H => resReg_runs s _ _
  | .res4L => resReg_runs s _ _
  | .res4AtHl => resMem_runs s _
  | .res4A => resReg_runs s _ _
  | .res5B => resReg_runs s _ _
  | .res5C => resReg_runs s _ _
  | .res5D => resReg_runs s _ _
  | .res5E => resReg_runs s _ _
  | .res5H => resReg_runs s _ _
  | .res5L => resReg_runs s _ _
  | .res5AtHl => resMem_runs s _
  | .res5A => resReg_runs s _ _
  | .res6B => resReg_runs s _ _
  | .res6C => resReg_runs s _ _
  | .res6D => resReg_runs s _ _
  | .res6E => resReg_runs s _ _
  | .res6H => resReg_runs s _ _
  | .res6L => resReg_runs s _ _
  | .res6AtHl => resMem_runs s _
  | .res6A => resReg_runs s _ _
  | .res7B => resReg_runs s _ _
  | .res7C => resReg_runs s _ _
  | .res7D => resReg_runs s _ _
  | .res7E => resReg_runs s _ _
  | .res7H => resReg_runs s _ _
  | .res7L => resReg_runs s _ _
  | .res7AtHl => resMem_runs s _
  | .res7A => resReg_runs s _ _
  | .set0B => setReg_runs s _ _
  | .set0C => setReg_runs s _ _
  | .set0D => setReg_runs s _ _
  | .set0E => setReg_runs s _ _
  | .set0H => setReg_runs s _ _
  | .set0L => setReg_runs s _ _
  | .set0AtHl => setMem_runs s _
  | .set0A => setReg_runs s _ _
  | .set1B => setReg_runs s _ _
  | .set1C => setReg_runs s _ _
  | .set1D => setReg_runs s _ _
  | .set1E => setReg_runs s _ _
  | .set1H => setReg_runs s _ _
  | .set1L => setReg_runs s _ _
  | .set1AtHl => setMem_runs s _
  | .set1A => setReg_runs s _ _
  | .set2B => setReg_runs s _ _
  | .set2C => setReg_runs s _ _
  | .set2D => setReg_runs s _ _
  | .set2E => setReg_runs s _ _
  | .set2H => setReg_runs s _ _
  | .set2L => setReg_runs s _ _
  | .set2AtHl => setMem_runs s _
  | .set2A => setReg_runs s _ _
  | .set3B => setReg_runs s _ _
  | .set3C => setReg_runs s _ _
  | .set3D => setReg_runs s _ _
  | .set3E => setReg_runs s _ _
  | .set3H => setReg_runs s _ _
  | .set3L => setReg_runs s _ _
  | .set3AtHl => setMem_runs s _
  | .set3A => setReg_runs s _ _
  | .set4B => setReg_runs s _ _
  | .set4C => setReg_runs s _ _
  | .set4D => setReg_runs s _ _
  | .set4E => setReg_runs s _ _
  | .set4H => setReg_runs s _ _
  | .set4L => setReg_runs s _ _
  | .set4AtHl => setMem_runs s _
  | .set4A => setReg_runs s _ _
  | .set5B => setReg_runs s _ _
  | .set5C => setReg_runs s _ _
  | .set5D => setReg_runs s _ _
  | .set5E => setReg_runs s _ _
  | .set5H => setReg_runs s _ _
  | .set5L => setReg_runs s _ _
  | .set5AtHl => setMem_runs s _
  | .set5A => setReg_runs s _ _
  | .set6B => setReg_runs s _ _
  | .set6C => setReg_runs s _ _
  | .set6D => setReg_runs s _ _
  | .set6E => setReg_runs s _ _
  | .set6H => setReg_runs s _ _
  | .set6L => setReg_runs s _ _
  | .set6AtHl => setMem_runs s _
  | .set6A => setReg_runs s _ _
  | .set7B => setReg_runs s _ _
  | .set7C => setReg_runs s _ _
  | .set7D => setReg_runs s _ _
  | .set7E => setReg_runs s _ _
  | .set7H => setReg_runs s _ _
  | .set7L => setReg_runs s _ _
  | .set7AtHl => setMem_runs s _
  | .set7A => setReg_runs s _ _

end Sys2Proof.Machine
end

