-- ==== Sys2Proof/Laws/Ppu.lean ====
section
/-!
SUPPORT. The PPU's state machine: what one transition can do, the loop as a recursion that needs no fuel, and the
settled state it ends in.
-/

namespace Sys2Proof.Machine

theorem ppuTransition_none {s : State} (h : s.ppu.acc < s.ppu.mode.threshold) : ppuTransition s = none := by
  simp [ppuTransition, h]

theorem ppuTransition_some {s : State} (h : s.ppu.mode.threshold ≤ s.ppu.acc) :
    ppuTransition s = some (endMode (chargeMode s)) := by
  simp only [ppuTransition, Nat.not_lt.2 h, if_false]

theorem PpuMode.threshold_ge (m : PpuMode) : 80 ≤ m.threshold := by cases m <;> simp [PpuMode.threshold]

/-- No mode's end touches the accumulator, and it writes only the PPU's state, bit 0 of `IF` and `frameReady`. -/
theorem endMode_frame (s : State) :
    (endMode s).ppu.acc = s.ppu.acc ∧
    endMode s = { s with
      ppu := (endMode s).ppu, iflag := (endMode s).iflag, frameReady := (endMode s).frameReady } ∧
    ((endMode s).iflag = s.iflag ∧ (endMode s).frameReady = s.frameReady ∨
      (endMode s).iflag = s.iflag ||| 0x01 ∧ (endMode s).frameReady = true) := by
  unfold endMode
  split
  · exact ⟨rfl, rfl, .inl ⟨rfl, rfl⟩⟩
  · exact ⟨rfl, rfl, .inl ⟨rfl, rfl⟩⟩
  · unfold endHBlank
    split
    · exact ⟨rfl, rfl, .inr ⟨rfl, rfl⟩⟩
    · exact ⟨rfl, rfl, .inl ⟨rfl, rfl⟩⟩
  · unfold endVBlankLine
    split
    · exact ⟨rfl, rfl, .inl ⟨rfl, rfl⟩⟩
    · exact ⟨rfl, rfl, .inl ⟨rfl, rfl⟩⟩

theorem endMode_acc (s : State) : (endMode s).ppu.acc = s.ppu.acc := (endMode_frame s).1

/-- The loop of `PPUTick` with the fuel it needs (R299). -/
def ppuRun (s : State) : State := ppuLoop (s.ppu.acc / 80) s

theorem ppuLoop_none {s : State} (n : Nat) (h : ppuTransition s = none) : ppuLoop n s = s := by
  cases n <;> simp [ppuLoop, h]

theorem ppuLoop_some {s : State} (n : Nat) (h : s.ppu.mode.threshold ≤ s.ppu.acc) :
    ppuLoop (n + 1) s = ppuLoop n (endMode (chargeMode s)) := by
  simp only [ppuLoop, ppuTransition_some h]

theorem endMode_chargeMode_acc (s : State) : (endMode (chargeMode s)).ppu.acc = s.ppu.acc - s.ppu.mode.threshold := by
  rw [endMode_acc]; rfl

/-- More fuel than the accumulator needs changes nothing. -/
theorem ppuLoop_fuel (n m : Nat) (s : State) (hn : s.ppu.acc / 80 ≤ n) (hm : s.ppu.acc / 80 ≤ m) :
    ppuLoop n s = ppuLoop m s := by
  induction n generalizing m s with
  | zero =>
    have ht := s.ppu.mode.threshold_ge
    have h := ppuTransition_none (s := s) (by omega)
    rw [ppuLoop_none _ h, ppuLoop_none _ h]
  | succ n ih =>
    by_cases hlt : s.ppu.acc < s.ppu.mode.threshold
    · rw [ppuLoop_none _ (ppuTransition_none hlt), ppuLoop_none _ (ppuTransition_none hlt)]
    · have hge := Nat.not_lt.1 hlt
      have ht := s.ppu.mode.threshold_ge
      obtain ⟨m, rfl⟩ : ∃ k, m = k + 1 := ⟨m - 1, by omega⟩
      rw [ppuLoop_some _ hge, ppuLoop_some _ hge]
      have hacc := endMode_chargeMode_acc s
      exact ih _ _ (by omega) (by omega)

/-- Below the threshold the loop exits. -/
theorem ppuRun_exit {s : State} (h : s.ppu.acc < s.ppu.mode.threshold) : ppuRun s = s :=
  ppuLoop_none _ (ppuTransition_none h)

/-- At the threshold the mode ends, and the loop goes on. -/
theorem ppuRun_step {s : State} (h : s.ppu.mode.threshold ≤ s.ppu.acc) :
    ppuRun s = ppuRun (endMode (chargeMode s)) := by
  have ht := s.ppu.mode.threshold_ge
  have hacc := endMode_chargeMode_acc s
  rw [ppuRun, ppuLoop_fuel _ (s.ppu.acc / 80 - 1 + 1) s le_rfl (by omega), ppuLoop_some _ h]
  exact ppuLoop_fuel _ _ _ (by omega) le_rfl

/-- Induction along the loop: what holds where it exits and is carried back over each mode's end. -/
theorem ppuRun_induction {P : State → State → Prop}
    (exit : ∀ s, s.ppu.acc < s.ppu.mode.threshold → P s s)
    (step : ∀ s, s.ppu.mode.threshold ≤ s.ppu.acc → P (endMode (chargeMode s)) (ppuRun (endMode (chargeMode s))) →
      P s (ppuRun (endMode (chargeMode s)))) (s : State) : P s (ppuRun s) := by
  induction hn : s.ppu.acc using Nat.strong_induction_on generalizing s with
  | _ n ih =>
    subst hn
    by_cases hlt : s.ppu.acc < s.ppu.mode.threshold
    · rw [ppuRun_exit hlt]; exact exit s hlt
    · have hge := Nat.not_lt.1 hlt
      have ht := s.ppu.mode.threshold_ge
      have hacc := endMode_chargeMode_acc s
      rw [ppuRun_step hge]
      exact step s hge (ih _ (by omega) _ rfl)

/-- The loop ends below the threshold. -/
theorem ppuRun_settled (s : State) : (ppuRun s).ppu.acc < (ppuRun s).ppu.mode.threshold :=
  ppuRun_induction (P := fun _ t => t.ppu.acc < t.ppu.mode.threshold) (fun _ h => h) (fun _ _ h => h) s

/-- What each mode's end keeps, the loop keeps. -/
theorem ppuRun_keeps {P : State → Prop} (h : ∀ s, s.ppu.mode.threshold ≤ s.ppu.acc → P s → P (endMode (chargeMode s)))
    (s : State) (hs : P s) : P (ppuRun s) :=
  ppuRun_induction (P := fun s t => P s → P t) (fun _ _ h => h) (fun s hge ih hs => ih (h s hge hs)) s hs

theorem ppuTick_off {s : State} (c : Nat) (h : bitOf s.io.lcdc 7 = false) : ppuTick c s = ppuHold s := by
  simp [ppuTick, h]

theorem ppuTick_on {s : State} (c : Nat) (h : bitOf s.io.lcdc 7 = true) :
    ppuTick c s = ppuRun { s with ppu.acc := s.ppu.acc + c } := by
  simp [ppuTick, h, ppuRun]

/-- The loop writes only the PPU's state, bit 0 of `IF` and `frameReady`. -/
theorem ppuRun_frame (s : State) :
    ppuRun s = { s with
      ppu := (ppuRun s).ppu, iflag := (ppuRun s).iflag, frameReady := (ppuRun s).frameReady } ∧
    ((ppuRun s).iflag = s.iflag ∧ (ppuRun s).frameReady = s.frameReady ∨
      (ppuRun s).iflag = s.iflag ||| 0x01 ∧ (ppuRun s).frameReady = true) := by
  refine ppuRun_induction (P := fun s t =>
    t = { s with ppu := t.ppu, iflag := t.iflag, frameReady := t.frameReady } ∧
      (t.iflag = s.iflag ∧ t.frameReady = s.frameReady ∨ t.iflag = s.iflag ||| 0x01 ∧ t.frameReady = true))
    (fun s _ => ⟨rfl, .inl ⟨rfl, rfl⟩⟩) (fun s _ ih => ?_) s
  obtain ⟨_, hf, hi⟩ := endMode_frame (chargeMode s)
  generalize endMode (chargeMode s) = u at *
  obtain ⟨ih1, ih2⟩ := ih
  generalize ppuRun u = t at *
  refine ⟨?_, ?_⟩
  · rw [ih1, hf]; rfl
  · change u.iflag = s.iflag ∧ u.frameReady = s.frameReady ∨ u.iflag = s.iflag ||| 0x01 ∧ u.frameReady = true at hi
    rcases hi with ⟨h1, h2⟩ | ⟨h1, h2⟩ <;> rcases ih2 with ⟨h3, h4⟩ | ⟨h3, h4⟩
    · exact .inl ⟨h3.trans h1, h4.trans h2⟩
    · exact .inr ⟨by rw [h3, h1], h4⟩
    · exact .inr ⟨h3.trans h1, h4.trans h2⟩
    · exact .inr ⟨by rw [h3, h1, BitVec.or_assoc]; rfl, h4⟩

end Sys2Proof.Machine
end

