-- ==== Sys2Proof/Laws/Step.lean ====
section
/-!
SUPPORT. What a Processor tick and a step can do, said once: later proofs cite these and do not unfold the step.
-/

namespace Sys2Proof.Machine

/-- The three things a Processor tick can be (R341): idle, an interrupt service, or an instruction. -/
theorem processorTick_cases (s : State) :
    (∃ k, s.idleCycles = some k ∧ processorTick s = finish k s) ∨
    (s.idleCycles = none ∧ s.ime = true ∧ s.pending ≠ 0 ∧
      processorTick s = finish s.cfg.intServiceCycles (serviceInterrupt s.pending { s with runState := .running })) ∨
    (s.idleCycles = none ∧ (s.ime = false ∨ s.pending = 0) ∧
      processorTick s = fetchExecute { s with runState := .running }) := by
  unfold processorTick
  split
  · next k h => exact .inl ⟨k, h, rfl⟩
  · next h =>
    dsimp only
    split
    · next hc => exact .inr (.inl ⟨h, hc.1, hc.2, rfl⟩)
    · next hc =>
      refine .inr (.inr ⟨h, ?_, rfl⟩)
      by_cases hi : s.ime = true
      · exact .inr (Decidable.not_not.1 fun hp => hc ⟨hi, hp⟩)
      · exact .inl (by simpa using hi)

/-- A tick answers a next state and keeps what every instruction keeps. -/
theorem processorTick_runs (s : State) : Runs s (processorTick s) := by
  rcases processorTick_cases s with ⟨k, _, h⟩ | ⟨_, _, _, h⟩ | ⟨_, _, h⟩
  · rw [h]; exact finish_processor _ rfl
  · rw [h]
    exact finish_runs _ (Kept.trans (Kept.of_processor rfl) (Kept.serviceInterrupt _ _))
  · rw [h]
    obtain ⟨t, ht, hk⟩ := exec_runs ({ s with runState := .running } : State).fetchDecode.1
      (({ s with runState := .running } : State).advance ({ s with runState := .running } : State).fetchDecode.2)
    exact ⟨t, ht, Kept.trans (Kept.of_processor rfl) hk⟩

/-- The top of an iteration changes the inputs and the signals of the iteration alone. -/
theorem beginIteration_only (s : State) :
    beginIteration s = { s with
      input := (beginIteration s).input, hostQueue := (beginIteration s).hostQueue, frameReady := false, report := none } := by
  unfold beginIteration sampleHost
  split <;> rfl

/-- A step is a Processor tick, then the PPU's tick with its cycles, then the end of the iteration. -/
theorem step_cases {s t : State} (h : step s = .next t) :
    s.stopFlag = false ∧ ∃ u, processorTick (beginIteration s) = .next u ∧ Kept (beginIteration s) u ∧
      t = endIteration s.fatal (ppuTick u.cycles u) := by
  unfold step iteration at h
  split at h
  · cases h
  · next hs =>
    refine ⟨by simpa using hs, ?_⟩
    obtain ⟨u, hu, hk⟩ := processorTick_runs (beginIteration s)
    rw [hu] at h
    exact ⟨u, hu, hk, by cases h; rfl⟩

/-- The PPU's tick writes only the PPU's state, bit 0 of `IF` and `frameReady`. -/
theorem ppuTick_only (c : Nat) (s : State) :
    ppuTick c s = { s with
      ppu := (ppuTick c s).ppu, iflag := (ppuTick c s).iflag, frameReady := (ppuTick c s).frameReady } ∧
    ((ppuTick c s).iflag = s.iflag ∧ (ppuTick c s).frameReady = s.frameReady ∨
      (ppuTick c s).iflag = s.iflag ||| 0x01 ∧ (ppuTick c s).frameReady = true) := by
  cases h : bitOf s.io.lcdc 7
  · rw [ppuTick_off c h]; exact ⟨rfl, .inl ⟨rfl, rfl⟩⟩
  · rw [ppuTick_on c h]
    have hf := ppuRun_frame ({ s with ppu.acc := s.ppu.acc + c } : State)
    exact hf

end Sys2Proof.Machine
end

