-- ==== Sys2Proof/Laws/Stores.lean ====
section
/-!
SUPPORT. What a storing form does, said once for all of them: a bus write at the address `storesTo` gives, and nothing
else but registers and cycles.
-/

namespace Sys2Proof.Machine

variable {s : State} {a : Word} {n : Nat}

/-- `t` is `s` after a bus write of `n` bytes at `a`, but for the registers and the cycles. -/
def StoredAt (s : State) (a : Word) (n : Nat) (t : State) : Prop :=
  (n = 1 ∧ ∃ (v : Byte) (r : Regs) (c : Nat), t = { s.write8 a v with regs := r, cycles := c }) ∨
  (n = 2 ∧ ∃ (w : Word) (r r' : Regs) (c : Nat),
    t = { ({ s with regs := r } : State).write16 a w with regs := r', cycles := c })

theorem StoredAt.byte (s : State) (a : Word) (v : Byte) (r : Regs) (c : Nat) :
    StoredAt s a 1 { s.write8 a v with regs := r, cycles := c } := .inl ⟨rfl, v, r, c, rfl⟩

theorem StoredAt.word (s : State) (a w : Word) (r r' : Regs) (c : Nat) :
    StoredAt s a 2 { ({ s with regs := r } : State).write16 a w with regs := r', cycles := c } :=
  .inr ⟨rfl, w, r, r', c, rfl⟩

theorem callIf_stores (cc : Cond) (nn : Word)
    (h : (if s.cond cc then some (s.regs.sp - 2, 2) else none) = some (a, n)) :
    ∃ t, callIf cc nn s = .next t ∧ StoredAt s a n t := by
  unfold callIf
  split at h
  · next hc => cases h; rw [if_pos hc]; exact ⟨_, rfl, StoredAt.word _ _ _ _ _ _⟩
  · cases h

set_option maxRecDepth 10000 in
/-- Every storing form answers a next state, stored at the address `storesTo` computes. -/
theorem exec_stores (i : Instr) (h : storesTo s i = some (a, n)) : ∃ t, exec i s = .next t ∧ StoredAt s a n t := by
  cases i <;> first
    | (cases h; done)
    | (cases h; exact ⟨_, rfl, StoredAt.byte _ _ _ _ _⟩)
    | (cases h; exact ⟨_, rfl, StoredAt.word _ _ _ _ _ _⟩)
    | exact callIf_stores _ _ h

end Sys2Proof.Machine
end

