-- ==== Sys2Proof/Tests/Slice0.lean ====
section
/-!
SUPPORT. Tests of the model and witnesses of the statements. Expected results are the spec's: the tables of
spec/30_encoding.md, the examples of the instruction rules and of spec/95_test_vectors.md. A witness shows that the
hypotheses of a statement, clause by clause, can be met together.
-/

namespace Sys2Proof.Machine

set_option Elab.async false

/-- The start state of the spec's examples: all-zero cartridge, display off, `pc` at 0xC000, everything else zero. -/
def blank : State :=
  { State.reset with
    regs :=
      { a := 0, flags := { z := false, n := false, h := false, c := false }, b := 0, c := 0, d := 0, e := 0, h := 0
        l := 0, sp := 0xFFFE, pc := 0xC000 }
    io := IoRegs.zero }

/-- `s` with bytes placed in storage. -/
def placed (s : State) (cells : Memory) : State :=
  cells.foldl (fun s cell => { s with mem := Memory.set s.mem cell.1 cell.2 }) s

/-- A result is a next state, and `p` holds of it. -/
def gives (r : Result) (p : State → Bool) : Bool :=
  match r with
  | .next t => p t
  | .fault _ => false
  | .refused _ => false

/-- What `gives` says. -/
theorem gives_next {r : Result} {p : State → Bool} (h : gives r p = true) : ∃ t, r = .next t ∧ p t = true := by
  cases r with
  | next t => exact ⟨t, rfl, h⟩
  | fault f => cases h
  | refused r => cases h

/-- The bytes decode to the instruction, well-formed, with nothing left over. -/
def decodesAll (l : List (List Byte × Instr)) : Bool :=
  l.all fun p =>
    match decode p.1 with
    | .ok (i, rest) => decide (i = p.2 ∧ rest = []) && i.wellFormed
    | .error _ => false

/-! ## Well-formedness -/

theorem test_wf_refuses_an_opcode_as_illegal : Instr.wellFormed (.illegal 0x00) = false := by decide

theorem test_wf_refuses_the_prefix_alone : Instr.wellFormed .prefixCb = false := by decide

theorem test_wf_accepts_the_eleven : illegalBytes.all (fun op => Instr.wellFormed (.illegal op)) = true := by decide


/-! ## Decoding: every row of the tables of R116 and R117, the bytes written out from the encoding, operands 0xAB and
0x1234. The expected instructions come from spec/opcode_table.json. -/

theorem test_decode_row0 : decodesAll
  [([0x00], .nop), ([0x01, 0x34, 0x12], .ldBcNn 0x1234), ([0x02], .ldAtBcA), ([0x03], .incBc),
   ([0x04], .incB), ([0x05], .decB), ([0x06, 0xAB], .ldBN 0xAB), ([0x07], .rlca),
   ([0x08, 0x34, 0x12], .ldAtNnSp 0x1234), ([0x09], .addHlBc), ([0x0A], .ldAAtBc), ([0x0B], .decBc),
   ([0x0C], .incC), ([0x0D], .decC), ([0x0E, 0xAB], .ldCN 0xAB), ([0x0F], .rrca)] = true := by
  decide +kernel

theorem test_decode_row1 : decodesAll
  [([0x10, 0xAB], .stop 0xAB), ([0x11, 0x34, 0x12], .ldDeNn 0x1234), ([0x12], .ldAtDeA), ([0x13], .incDe),
   ([0x14], .incD), ([0x15], .decD), ([0x16, 0xAB], .ldDN 0xAB), ([0x17], .rla),
   ([0x18, 0xAB], .jrDisp 0xAB), ([0x19], .addHlDe), ([0x1A], .ldAAtDe), ([0x1B], .decDe),
   ([0x1C], .incE), ([0x1D], .decE), ([0x1E, 0xAB], .ldEN 0xAB), ([0x1F], .rra)] = true := by
  decide +kernel

theorem test_decode_row2 : decodesAll
  [([0x20, 0xAB], .jrNzDisp 0xAB), ([0x21, 0x34, 0x12], .ldHlNn 0x1234), ([0x22], .ldAtHlIncA), ([0x23], .incHl),
   ([0x24], .incH), ([0x25], .decH), ([0x26, 0xAB], .ldHN 0xAB), ([0x27], .daa),
   ([0x28, 0xAB], .jrZDisp 0xAB), ([0x29], .addHlHl), ([0x2A], .ldAAtHlInc), ([0x2B], .decHl),
   ([0x2C], .incL), ([0x2D], .decL), ([0x2E, 0xAB], .ldLN 0xAB), ([0x2F], .cpl)] = true := by
  decide +kernel

theorem test_decode_row3 : decodesAll
  [([0x30, 0xAB], .jrNcDisp 0xAB), ([0x31, 0x34, 0x12], .ldSpNn 0x1234), ([0x32], .ldAtHlDecA), ([0x33], .incSp),
   ([0x34], .incAtHl), ([0x35], .decAtHl), ([0x36, 0xAB], .ldAtHlN 0xAB), ([0x37], .scf),
   ([0x38, 0xAB], .jrCDisp 0xAB), ([0x39], .addHlSp), ([0x3A], .ldAAtHlDec), ([0x3B], .decSp),
   ([0x3C], .incA), ([0x3D], .decA), ([0x3E, 0xAB], .ldAN 0xAB), ([0x3F], .ccf)] = true := by
  decide +kernel

theorem test_decode_row4 : decodesAll
  [([0x40], .ldBB), ([0x41], .ldBC), ([0x42], .ldBD), ([0x43], .ldBE),
   ([0x44], .ldBH), ([0x45], .ldBL), ([0x46], .ldBAtHl), ([0x47], .ldBA),
   ([0x48], .ldCB), ([0x49], .ldCC), ([0x4A], .ldCD), ([0x4B], .ldCE),
   ([0x4C], .ldCH), ([0x4D], .ldCL), ([0x4E], .ldCAtHl), ([0x4F], .ldCA)] = true := by
  decide +kernel

theorem test_decode_row5 : decodesAll
  [([0x50], .ldDB), ([0x51], .ldDC), ([0x52], .ldDD), ([0x53], .ldDE),
   ([0x54], .ldDH), ([0x55], .ldDL), ([0x56], .ldDAtHl), ([0x57], .ldDA),
   ([0x58], .ldEB), ([0x59], .ldEC), ([0x5A], .ldED), ([0x5B], .ldEE),
   ([0x5C], .ldEH), ([0x5D], .ldEL), ([0x5E], .ldEAtHl), ([0x5F], .ldEA)] = true := by
  decide +kernel

theorem test_decode_row6 : decodesAll
  [([0x60], .ldHB), ([0x61], .ldHC), ([0x62], .ldHD), ([0x63], .ldHE),
   ([0x64], .ldHH), ([0x65], .ldHL), ([0x66], .ldHAtHl), ([0x67], .ldHA),
   ([0x68], .ldLB), ([0x69], .ldLC), ([0x6A], .ldLD), ([0x6B], .ldLE),
   ([0x6C], .ldLH), ([0x6D], .ldLL), ([0x6E], .ldLAtHl), ([0x6F], .ldLA)] = true := by
  decide +kernel

theorem test_decode_row7 : decodesAll
  [([0x70], .ldAtHlB), ([0x71], .ldAtHlC), ([0x72], .ldAtHlD), ([0x73], .ldAtHlE),
   ([0x74], .ldAtHlH), ([0x75], .ldAtHlL), ([0x76], .halt), ([0x77], .ldAtHlA),
   ([0x78], .ldAB), ([0x79], .ldAC), ([0x7A], .ldAD), ([0x7B], .ldAE),
   ([0x7C], .ldAH), ([0x7D], .ldAL), ([0x7E], .ldAAtHl), ([0x7F], .ldAA)] = true := by
  decide +kernel

theorem test_decode_row8 : decodesAll
  [([0x80], .addAB), ([0x81], .addAC), ([0x82], .addAD), ([0x83], .addAE),
   ([0x84], .addAH), ([0x85], .addAL), ([0x86], .addAAtHl), ([0x87], .addAA),
   ([0x88], .adcAB), ([0x89], .adcAC), ([0x8A], .adcAD), ([0x8B], .adcAE),
   ([0x8C], .adcAH), ([0x8D], .adcAL), ([0x8E], .adcAAtHl), ([0x8F], .adcAA)] = true := by
  decide +kernel

theorem test_decode_row9 : decodesAll
  [([0x90], .subB), ([0x91], .subC), ([0x92], .subD), ([0x93], .subE),
   ([0x94], .subH), ([0x95], .subL), ([0x96], .subAtHl), ([0x97], .subA),
   ([0x98], .sbcAB), ([0x99], .sbcAC), ([0x9A], .sbcAD), ([0x9B], .sbcAE),
   ([0x9C], .sbcAH), ([0x9D], .sbcAL), ([0x9E], .sbcAAtHl), ([0x9F], .sbcAA)] = true := by
  decide +kernel

theorem test_decode_rowA : decodesAll
  [([0xA0], .andB), ([0xA1], .andC), ([0xA2], .andD), ([0xA3], .andE),
   ([0xA4], .andH), ([0xA5], .andL), ([0xA6], .andAtHl), ([0xA7], .andA),
   ([0xA8], .xorB), ([0xA9], .xorC), ([0xAA], .xorD), ([0xAB], .xorE),
   ([0xAC], .xorH), ([0xAD], .xorL), ([0xAE], .xorAtHl), ([0xAF], .xorA)] = true := by
  decide +kernel

theorem test_decode_rowB : decodesAll
  [([0xB0], .orB), ([0xB1], .orC), ([0xB2], .orD), ([0xB3], .orE),
   ([0xB4], .orH), ([0xB5], .orL), ([0xB6], .orAtHl), ([0xB7], .orA),
   ([0xB8], .cpB), ([0xB9], .cpC), ([0xBA], .cpD), ([0xBB], .cpE),
   ([0xBC], .cpH), ([0xBD], .cpL), ([0xBE], .cpAtHl), ([0xBF], .cpA)] = true := by
  decide +kernel

theorem test_decode_rowC : decodesAll
  [([0xC0], .retNz), ([0xC1], .popBc), ([0xC2, 0x34, 0x12], .jpNzNn 0x1234), ([0xC3, 0x34, 0x12], .jpNn 0x1234),
   ([0xC4, 0x34, 0x12], .callNzNn 0x1234), ([0xC5], .pushBc), ([0xC6, 0xAB], .addAN 0xAB), ([0xC7], .rst00),
   ([0xC8], .retZ), ([0xC9], .ret), ([0xCA, 0x34, 0x12], .jpZNn 0x1234), ([0xCC, 0x34, 0x12], .callZNn 0x1234),
   ([0xCD, 0x34, 0x12], .callNn 0x1234), ([0xCE, 0xAB], .adcAN 0xAB), ([0xCF], .rst08)] = true := by
  decide +kernel

theorem test_decode_rowD : decodesAll
  [([0xD0], .retNc), ([0xD1], .popDe), ([0xD2, 0x34, 0x12], .jpNcNn 0x1234), ([0xD3], .illegal 0xD3),
   ([0xD4, 0x34, 0x12], .callNcNn 0x1234), ([0xD5], .pushDe), ([0xD6, 0xAB], .subN 0xAB), ([0xD7], .rst10),
   ([0xD8], .retC), ([0xD9], .reti), ([0xDA, 0x34, 0x12], .jpCNn 0x1234), ([0xDB], .illegal 0xDB),
   ([0xDC, 0x34, 0x12], .callCNn 0x1234), ([0xDD], .illegal 0xDD), ([0xDE, 0xAB], .sbcAN 0xAB), ([0xDF], .rst18)] = true := by
  decide +kernel

theorem test_decode_rowE : decodesAll
  [([0xE0, 0xAB], .ldhAtNA 0xAB), ([0xE1], .popHl), ([0xE2], .ldhAtCA), ([0xE3], .illegal 0xE3),
   ([0xE4], .illegal 0xE4), ([0xE5], .pushHl), ([0xE6, 0xAB], .andN 0xAB), ([0xE7], .rst20),
   ([0xE8, 0xAB], .addSpDisp 0xAB), ([0xE9], .jpHl), ([0xEA, 0x34, 0x12], .ldAtNnA 0x1234), ([0xEB], .illegal 0xEB),
   ([0xEC], .illegal 0xEC), ([0xED], .illegal 0xED), ([0xEE, 0xAB], .xorN 0xAB), ([0xEF], .rst28)] = true := by
  decide +kernel

theorem test_decode_rowF : decodesAll
  [([0xF0, 0xAB], .ldhAAtN 0xAB), ([0xF1], .popAf), ([0xF2], .ldhAAtC), ([0xF3], .di),
   ([0xF4], .illegal 0xF4), ([0xF5], .pushAf), ([0xF6, 0xAB], .orN 0xAB), ([0xF7], .rst30),
   ([0xF8, 0xAB], .ldHlSpDisp 0xAB), ([0xF9], .ldSpHl), ([0xFA, 0x34, 0x12], .ldAAtNn 0x1234), ([0xFB], .ei),
   ([0xFC], .illegal 0xFC), ([0xFD], .illegal 0xFD), ([0xFE, 0xAB], .cpN 0xAB), ([0xFF], .rst38)] = true := by
  decide +kernel

theorem test_decode_cb_row0 : decodesAll
  [([0xCB, 0x00], .rlcB), ([0xCB, 0x01], .rlcC), ([0xCB, 0x02], .rlcD), ([0xCB, 0x03], .rlcE),
   ([0xCB, 0x04], .rlcH), ([0xCB, 0x05], .rlcL), ([0xCB, 0x06], .rlcAtHl), ([0xCB, 0x07], .rlcA),
   ([0xCB, 0x08], .rrcB), ([0xCB, 0x09], .rrcC), ([0xCB, 0x0A], .rrcD), ([0xCB, 0x0B], .rrcE),
   ([0xCB, 0x0C], .rrcH), ([0xCB, 0x0D], .rrcL), ([0xCB, 0x0E], .rrcAtHl), ([0xCB, 0x0F], .rrcA)] = true := by
  decide +kernel

theorem test_decode_cb_row1 : decodesAll
  [([0xCB, 0x10], .rlB), ([0xCB, 0x11], .rlC), ([0xCB, 0x12], .rlD), ([0xCB, 0x13], .rlE),
   ([0xCB, 0x14], .rlH), ([0xCB, 0x15], .rlL), ([0xCB, 0x16], .rlAtHl), ([0xCB, 0x17], .rlA),
   ([0xCB, 0x18], .rrB), ([0xCB, 0x19], .rrC), ([0xCB, 0x1A], .rrD), ([0xCB, 0x1B], .rrE),
   ([0xCB, 0x1C], .rrH), ([0xCB, 0x1D], .rrL), ([0xCB, 0x1E], .rrAtHl), ([0xCB, 0x1F], .rrA)] = true := by
  decide +kernel

theorem test_decode_cb_row2 : decodesAll
  [([0xCB, 0x20], .slaB), ([0xCB, 0x21], .slaC), ([0xCB, 0x22], .slaD), ([0xCB, 0x23], .slaE),
   ([0xCB, 0x24], .slaH), ([0xCB, 0x25], .slaL), ([0xCB, 0x26], .slaAtHl), ([0xCB, 0x27], .slaA),
   ([0xCB, 0x28], .sraB), ([0xCB, 0x29], .sraC), ([0xCB, 0x2A], .sraD), ([0xCB, 0x2B], .sraE),
   ([0xCB, 0x2C], .sraH), ([0xCB, 0x2D], .sraL), ([0xCB, 0x2E], .sraAtHl), ([0xCB, 0x2F], .sraA)] = true := by
  decide +kernel

theorem test_decode_cb_row3 : decodesAll
  [([0xCB, 0x30], .swapB), ([0xCB, 0x31], .swapC), ([0xCB, 0x32], .swapD), ([0xCB, 0x33], .swapE),
   ([0xCB, 0x34], .swapH), ([0xCB, 0x35], .swapL), ([0xCB, 0x36], .swapAtHl), ([0xCB, 0x37], .swapA),
   ([0xCB, 0x38], .srlB), ([0xCB, 0x39], .srlC), ([0xCB, 0x3A], .srlD), ([0xCB, 0x3B], .srlE),
   ([0xCB, 0x3C], .srlH), ([0xCB, 0x3D], .srlL), ([0xCB, 0x3E], .srlAtHl), ([0xCB, 0x3F], .srlA)] = true := by
  decide +kernel

theorem test_decode_cb_row4 : decodesAll
  [([0xCB, 0x40], .bit0B), ([0xCB, 0x41], .bit0C), ([0xCB, 0x42], .bit0D), ([0xCB, 0x43], .bit0E),
   ([0xCB, 0x44], .bit0H), ([0xCB, 0x45], .bit0L), ([0xCB, 0x46], .bit0AtHl), ([0xCB, 0x47], .bit0A),
   ([0xCB, 0x48], .bit1B), ([0xCB, 0x49], .bit1C), ([0xCB, 0x4A], .bit1D), ([0xCB, 0x4B], .bit1E),
   ([0xCB, 0x4C], .bit1H), ([0xCB, 0x4D], .bit1L), ([0xCB, 0x4E], .bit1AtHl), ([0xCB, 0x4F], .bit1A)] = true := by
  decide +kernel

theorem test_decode_cb_row5 : decodesAll
  [([0xCB, 0x50], .bit2B), ([0xCB, 0x51], .bit2C), ([0xCB, 0x52], .bit2D), ([0xCB, 0x53], .bit2E),
   ([0xCB, 0x54], .bit2H), ([0xCB, 0x55], .bit2L), ([0xCB, 0x56], .bit2AtHl), ([0xCB, 0x57], .bit2A),
   ([0xCB, 0x58], .bit3B), ([0xCB, 0x59], .bit3C), ([0xCB, 0x5A], .bit3D), ([0xCB, 0x5B], .bit3E),
   ([0xCB, 0x5C], .bit3H), ([0xCB, 0x5D], .bit3L), ([0xCB, 0x5E], .bit3AtHl), ([0xCB, 0x5F], .bit3A)] = true := by
  decide +kernel

theorem test_decode_cb_row6 : decodesAll
  [([0xCB, 0x60], .bit4B), ([0xCB, 0x61], .bit4C), ([0xCB, 0x62], .bit4D), ([0xCB, 0x63], .bit4E),
   ([0xCB, 0x64], .bit4H), ([0xCB, 0x65], .bit4L), ([0xCB, 0x66], .bit4AtHl), ([0xCB, 0x67], .bit4A),
   ([0xCB, 0x68], .bit5B), ([0xCB, 0x69], .bit5C), ([0xCB, 0x6A], .bit5D), ([0xCB, 0x6B], .bit5E),
   ([0xCB, 0x6C], .bit5H), ([0xCB, 0x6D], .bit5L), ([0xCB, 0x6E], .bit5AtHl), ([0xCB, 0x6F], .bit5A)] = true := by
  decide +kernel

theorem test_decode_cb_row7 : decodesAll
  [([0xCB, 0x70], .bit6B), ([0xCB, 0x71], .bit6C), ([0xCB, 0x72], .bit6D), ([0xCB, 0x73], .bit6E),
   ([0xCB, 0x74], .bit6H), ([0xCB, 0x75], .bit6L), ([0xCB, 0x76], .bit6AtHl), ([0xCB, 0x77], .bit6A),
   ([0xCB, 0x78], .bit7B), ([0xCB, 0x79], .bit7C), ([0xCB, 0x7A], .bit7D), ([0xCB, 0x7B], .bit7E),
   ([0xCB, 0x7C], .bit7H), ([0xCB, 0x7D], .bit7L), ([0xCB, 0x7E], .bit7AtHl), ([0xCB, 0x7F], .bit7A)] = true := by
  decide +kernel

theorem test_decode_cb_row8 : decodesAll
  [([0xCB, 0x80], .res0B), ([0xCB, 0x81], .res0C), ([0xCB, 0x82], .res0D), ([0xCB, 0x83], .res0E),
   ([0xCB, 0x84], .res0H), ([0xCB, 0x85], .res0L), ([0xCB, 0x86], .res0AtHl), ([0xCB, 0x87], .res0A),
   ([0xCB, 0x88], .res1B), ([0xCB, 0x89], .res1C), ([0xCB, 0x8A], .res1D), ([0xCB, 0x8B], .res1E),
   ([0xCB, 0x8C], .res1H), ([0xCB, 0x8D], .res1L), ([0xCB, 0x8E], .res1AtHl), ([0xCB, 0x8F], .res1A)] = true := by
  decide +kernel

theorem test_decode_cb_row9 : decodesAll
  [([0xCB, 0x90], .res2B), ([0xCB, 0x91], .res2C), ([0xCB, 0x92], .res2D), ([0xCB, 0x93], .res2E),
   ([0xCB, 0x94], .res2H), ([0xCB, 0x95], .res2L), ([0xCB, 0x96], .res2AtHl), ([0xCB, 0x97], .res2A),
   ([0xCB, 0x98], .res3B), ([0xCB, 0x99], .res3C), ([0xCB, 0x9A], .res3D), ([0xCB, 0x9B], .res3E),
   ([0xCB, 0x9C], .res3H), ([0xCB, 0x9D], .res3L), ([0xCB, 0x9E], .res3AtHl), ([0xCB, 0x9F], .res3A)] = true := by
  decide +kernel

theorem test_decode_cb_rowA : decodesAll
  [([0xCB, 0xA0], .res4B), ([0xCB, 0xA1], .res4C), ([0xCB, 0xA2], .res4D), ([0xCB, 0xA3], .res4E),
   ([0xCB, 0xA4], .res4H), ([0xCB, 0xA5], .res4L), ([0xCB, 0xA6], .res4AtHl), ([0xCB, 0xA7], .res4A),
   ([0xCB, 0xA8], .res5B), ([0xCB, 0xA9], .res5C), ([0xCB, 0xAA], .res5D), ([0xCB, 0xAB], .res5E),
   ([0xCB, 0xAC], .res5H), ([0xCB, 0xAD], .res5L), ([0xCB, 0xAE], .res5AtHl), ([0xCB, 0xAF], .res5A)] = true := by
  decide +kernel

theorem test_decode_cb_rowB : decodesAll
  [([0xCB, 0xB0], .res6B), ([0xCB, 0xB1], .res6C), ([0xCB, 0xB2], .res6D), ([0xCB, 0xB3], .res6E),
   ([0xCB, 0xB4], .res6H), ([0xCB, 0xB5], .res6L), ([0xCB, 0xB6], .res6AtHl), ([0xCB, 0xB7], .res6A),
   ([0xCB, 0xB8], .res7B), ([0xCB, 0xB9], .res7C), ([0xCB, 0xBA], .res7D), ([0xCB, 0xBB], .res7E),
   ([0xCB, 0xBC], .res7H), ([0xCB, 0xBD], .res7L), ([0xCB, 0xBE], .res7AtHl), ([0xCB, 0xBF], .res7A)] = true := by
  decide +kernel

theorem test_decode_cb_rowC : decodesAll
  [([0xCB, 0xC0], .set0B), ([0xCB, 0xC1], .set0C), ([0xCB, 0xC2], .set0D), ([0xCB, 0xC3], .set0E),
   ([0xCB, 0xC4], .set0H), ([0xCB, 0xC5], .set0L), ([0xCB, 0xC6], .set0AtHl), ([0xCB, 0xC7], .set0A),
   ([0xCB, 0xC8], .set1B), ([0xCB, 0xC9], .set1C), ([0xCB, 0xCA], .set1D), ([0xCB, 0xCB], .set1E),
   ([0xCB, 0xCC], .set1H), ([0xCB, 0xCD], .set1L), ([0xCB, 0xCE], .set1AtHl), ([0xCB, 0xCF], .set1A)] = true := by
  decide +kernel

theorem test_decode_cb_rowD : decodesAll
  [([0xCB, 0xD0], .set2B), ([0xCB, 0xD1], .set2C), ([0xCB, 0xD2], .set2D), ([0xCB, 0xD3], .set2E),
   ([0xCB, 0xD4], .set2H), ([0xCB, 0xD5], .set2L), ([0xCB, 0xD6], .set2AtHl), ([0xCB, 0xD7], .set2A),
   ([0xCB, 0xD8], .set3B), ([0xCB, 0xD9], .set3C), ([0xCB, 0xDA], .set3D), ([0xCB, 0xDB], .set3E),
   ([0xCB, 0xDC], .set3H), ([0xCB, 0xDD], .set3L), ([0xCB, 0xDE], .set3AtHl), ([0xCB, 0xDF], .set3A)] = true := by
  decide +kernel

theorem test_decode_cb_rowE : decodesAll
  [([0xCB, 0xE0], .set4B), ([0xCB, 0xE1], .set4C), ([0xCB, 0xE2], .set4D), ([0xCB, 0xE3], .set4E),
   ([0xCB, 0xE4], .set4H), ([0xCB, 0xE5], .set4L), ([0xCB, 0xE6], .set4AtHl), ([0xCB, 0xE7], .set4A),
   ([0xCB, 0xE8], .set5B), ([0xCB, 0xE9], .set5C), ([0xCB, 0xEA], .set5D), ([0xCB, 0xEB], .set5E),
   ([0xCB, 0xEC], .set5H), ([0xCB, 0xED], .set5L), ([0xCB, 0xEE], .set5AtHl), ([0xCB, 0xEF], .set5A)] = true := by
  decide +kernel

theorem test_decode_cb_rowF : decodesAll
  [([0xCB, 0xF0], .set6B), ([0xCB, 0xF1], .set6C), ([0xCB, 0xF2], .set6D), ([0xCB, 0xF3], .set6E),
   ([0xCB, 0xF4], .set6H), ([0xCB, 0xF5], .set6L), ([0xCB, 0xF6], .set6AtHl), ([0xCB, 0xF7], .set6A),
   ([0xCB, 0xF8], .set7B), ([0xCB, 0xF9], .set7C), ([0xCB, 0xFA], .set7D), ([0xCB, 0xFB], .set7E),
   ([0xCB, 0xFC], .set7H), ([0xCB, 0xFD], .set7L), ([0xCB, 0xFE], .set7AtHl), ([0xCB, 0xFF], .set7A)] = true := by
  decide +kernel

/-- The words the opcode table gives, with operand bytes of zeros. -/
theorem test_table_words :
    decodeTableWord 8 0x00 = some .nop ∧ decodeTableWord 24 0x01 = some (.ldBcNn 0) ∧
    decodeTableWord 16 0x06 = some (.ldBN 0) ∧ decodeTableWord 16 0xCB00 = some .rlcB ∧
    decodeTableWord 16 0xCBFF = some .set7A ∧ decodeTableWord 8 0xD3 = some (.illegal 0xD3) := by decide

/-- A placed word is what the first step after reset runs: `LD A,0xAB` and `JP 0x1234`. -/
theorem test_withFetchWord :
    gives (step (State.reset.withFetchWord 16 0xAB3E))
      (fun t => decide (t.regs.a = 0xAB ∧ t.regs.pc = 0x0102)) = true ∧
    gives (step (State.reset.withFetchWord 24 0x1234C3)) (fun t => decide (t.regs.pc = 0x1234)) = true := by
  decide +kernel


/-! ## One step: the examples of the instruction rules, each as its rule gives it. -/

theorem test_R130_LD_B_C :
    gives (step (placed { blank with regs.b := 0x12, regs.c := 0x34 }
        [(0xC000, 0x41)])) (fun t =>
      decide (t.regs.b = 0x34 ∧ t.regs.c = 0x34 ∧ t.regs.pc = 0xC001 ∧ t.cycles = 4)) = true := by
  decide +kernel

theorem test_R131_LD_A_0xAB :
    gives (step (placed blank
        [(0xC000, 0x3E), (0xC001, 0xAB)])) (fun t =>
      decide (t.regs.a = 0xAB ∧ t.regs.pc = 0xC002 ∧ t.cycles = 8)) = true := by
  decide +kernel

theorem test_R132_LD_L_HL :
    gives (step (placed { blank with regs.h := 0xC1, regs.l := 0x23 }
        [(0xC000, 0x6E), (0xC123, 0x77)])) (fun t =>
      decide (t.regs.h = 0xC1 ∧ t.regs.l = 0x77 ∧ t.cycles = 8)) = true := by
  decide +kernel

theorem test_R133_LD_HL_B :
    gives (step (placed { blank with regs.b := 0x5A, regs.h := 0xC0, regs.l := 0x10 }
        [(0xC000, 0x70)])) (fun t =>
      decide (t.read8 0xC010 = 0x5A ∧ t.cycles = 8)) = true := by
  decide +kernel

theorem test_R134_LD_HL_0x99 :
    gives (step (placed { blank with regs.h := 0xC2, regs.l := 0x00 }
        [(0xC000, 0x36), (0xC001, 0x99)])) (fun t =>
      decide (t.read8 0xC200 = 0x99 ∧ t.regs.pc = 0xC002 ∧ t.cycles = 12)) = true := by
  decide +kernel

theorem test_R135_LD_A_BC :
    gives (step (placed { blank with regs.b := 0xC0, regs.c := 0x40 }
        [(0xC000, 0x0A), (0xC040, 0x3C)])) (fun t =>
      decide (t.regs.a = 0x3C ∧ t.cycles = 8)) = true := by
  decide +kernel

theorem test_R136_LD_A_DE :
    gives (step (placed { blank with regs.d := 0xC0, regs.e := 0x40 }
        [(0xC000, 0x1A), (0xC040, 0x3C)])) (fun t =>
      decide (t.regs.a = 0x3C ∧ t.cycles = 8)) = true := by
  decide +kernel

theorem test_R137_LD_BC_A :
    gives (step (placed { blank with regs.a := 0xE7, regs.b := 0xC0, regs.c := 0x41 }
        [(0xC000, 0x02)])) (fun t =>
      decide (t.read8 0xC041 = 0xE7 ∧ t.cycles = 8)) = true := by
  decide +kernel

theorem test_R138_LD_DE_A :
    gives (step (placed { blank with regs.a := 0xE7, regs.d := 0xC0, regs.e := 0x41 }
        [(0xC000, 0x12)])) (fun t =>
      decide (t.read8 0xC041 = 0xE7 ∧ t.cycles = 8)) = true := by
  decide +kernel

theorem test_R139_LD_A_0xC134 :
    gives (step (placed blank
        [(0xC000, 0xFA), (0xC001, 0x34), (0xC002, 0xC1), (0xC134, 0x42)])) (fun t =>
      decide (t.regs.a = 0x42 ∧ t.regs.pc = 0xC003 ∧ t.cycles = 16)) = true := by
  decide +kernel

theorem test_R140_LD_0xE000_A :
    gives (step (placed { blank with regs.a := 0x55 }
        [(0xC000, 0xEA), (0xC001, 0x00), (0xC002, 0xE0)])) (fun t =>
      decide (t.read8 0xE000 = 0xFF ∧ t.read8 0xC000 = 0xEA ∧ t.regs.pc = 0xC003 ∧ t.cycles = 16)) = true := by
  decide +kernel

theorem test_R141_LDH_A_C :
    gives (step (placed { blank with regs.c := 0x90 }
        [(0xC000, 0xF2), (0xFF90, 0x6B)])) (fun t =>
      decide (t.regs.a = 0x6B ∧ t.cycles = 8)) = true := by
  decide +kernel

theorem test_R142_LDH_C_A :
    gives (step (placed { blank with regs.a := 0x1F, regs.c := 0xFF }
        [(0xC000, 0xE2)])) (fun t =>
      decide (t.ie = 0x1F ∧ t.cycles = 8)) = true := by
  decide +kernel

theorem test_R143_LDH_A_0x80 :
    gives (step (placed blank
        [(0xC000, 0xF0), (0xC001, 0x80), (0xFF80, 0xA5)])) (fun t =>
      decide (t.regs.a = 0xA5 ∧ t.regs.pc = 0xC002 ∧ t.cycles = 12)) = true := by
  decide +kernel

theorem test_R144_LDH_0x47_A :
    gives (step (placed { blank with regs.a := 0xE4 }
        [(0xC000, 0xE0), (0xC001, 0x47)])) (fun t =>
      decide (t.io.bgp = 0xE4 ∧ t.regs.pc = 0xC002 ∧ t.cycles = 12)) = true := by
  decide +kernel

theorem test_R145_LD_A_HL :
    gives (step (placed { blank with regs.h := 0xC1, regs.l := 0x00 }
        [(0xC000, 0x3A), (0xC100, 0x21)])) (fun t =>
      decide (t.regs.a = 0x21 ∧ t.hl = 0xC0FF ∧ t.cycles = 8)) = true := by
  decide +kernel

theorem test_R146_LD_HL_A :
    gives (step (placed { blank with regs.a := 0x9D, regs.h := 0x00, regs.l := 0x00 }
        [(0xC000, 0x32)])) (fun t =>
      decide (t.hl = 0xFFFF ∧ t.read8 0x0000 = 0x9D ∧ t.cycles = 8)) = true := by
  decide +kernel

theorem test_R147_LD_A_HL :
    gives (step (placed { blank with regs.h := 0xC0, regs.l := 0xFF }
        [(0xC000, 0x2A), (0xC0FF, 0x21)])) (fun t =>
      decide (t.regs.a = 0x21 ∧ t.hl = 0xC100 ∧ t.cycles = 8)) = true := by
  decide +kernel

theorem test_R148_LD_HL_A :
    gives (step (placed { blank with regs.a := 0x9D, regs.h := 0xFF, regs.l := 0xFF }
        [(0xC000, 0x22)])) (fun t =>
      decide (t.hl = 0x0000 ∧ t.ie = 0x9D ∧ t.cycles = 8)) = true := by
  decide +kernel

theorem test_R160_LD_HL_0x1234 :
    gives (step (placed blank
        [(0xC000, 0x21), (0xC001, 0x34), (0xC002, 0x12)])) (fun t =>
      decide (t.regs.h = 0x12 ∧ t.regs.l = 0x34 ∧ t.regs.pc = 0xC003 ∧ t.cycles = 12)) = true := by
  decide +kernel

theorem test_R161_LD_0xC100_SP :
    gives (step (placed { blank with regs.sp := 0xFFF8 }
        [(0xC000, 0x08), (0xC001, 0x00), (0xC002, 0xC1)])) (fun t =>
      decide (t.read8 0xC100 = 0xF8 ∧ t.read8 0xC101 = 0xFF ∧ t.regs.pc = 0xC003 ∧ t.cycles = 20)) = true := by
  decide +kernel

theorem test_R162_LD_SP_HL :
    gives (step (placed { blank with regs.h := 0xD0, regs.l := 0x00, regs.sp := 0xFFFE }
        [(0xC000, 0xF9)])) (fun t =>
      decide (t.regs.sp = 0xD000 ∧ t.cycles = 8)) = true := by
  decide +kernel

theorem test_R163_LD_HL_SP_2 :
    gives (step (placed { blank with regs.sp := 0xFFFE }
        [(0xC000, 0xF8), (0xC001, 0x02)])) (fun t =>
      decide (t.hl = 0x0000 ∧ t.regs.sp = 0xFFFE ∧ t.regs.flags = ⟨false, false, true, true⟩ ∧ t.cycles = 12)) = true := by
  decide +kernel

theorem test_R164_PUSH_BC :
    gives (step (placed { blank with regs.b := 0x12, regs.c := 0x34, regs.sp := 0xD000 }
        [(0xC000, 0xC5)])) (fun t =>
      decide (t.regs.sp = 0xCFFE ∧ t.read8 0xCFFE = 0x34 ∧ t.read8 0xCFFF = 0x12 ∧ t.cycles = 16)) = true := by
  decide +kernel

theorem test_R165_PUSH_AF :
    gives (step (placed { blank with regs.a := 0x12, regs.flags.z := true, regs.flags.n := false, regs.flags.h := true, regs.flags.c := true, regs.sp := 0xD000 }
        [(0xC000, 0xF5)])) (fun t =>
      decide (t.regs.sp = 0xCFFE ∧ t.read8 0xCFFE = 0x0B ∧ t.read8 0xCFFF = 0x12 ∧ t.cycles = 16)) = true := by
  decide +kernel

theorem test_R166_POP_AF :
    gives (step (placed { blank with regs.sp := 0xCFFE }
        [(0xC000, 0xF1), (0xCFFE, 0xFF), (0xCFFF, 0x80)])) (fun t =>
      decide (t.regs.a = 0x80 ∧ t.regs.flags = ⟨true, true, true, true⟩ ∧ t.regs.sp = 0xD000 ∧ t.cycles = 12)) = true := by
  decide +kernel

theorem test_R167_POP_HL :
    gives (step (placed { blank with regs.sp := 0xFFFF, ie := 0x34 }
        [(0x0000, 0x12), (0xC000, 0xE1)])) (fun t =>
      decide (t.hl = 0x1234 ∧ t.regs.sp = 0x0001 ∧ t.cycles = 12)) = true := by
  decide +kernel

theorem test_R170_ADD_A_B :
    gives (step (placed { blank with regs.a := 0x3A, regs.b := 0xC6 }
        [(0xC000, 0x80)])) (fun t =>
      decide (t.regs.a = 0x00 ∧ t.regs.flags = ⟨true, false, true, true⟩ ∧ t.cycles = 4)) = true := by
  decide +kernel

theorem test_R171_ADD_A_HL :
    gives (step (placed { blank with regs.a := 0x3C, regs.h := 0xC1, regs.l := 0x00 }
        [(0xC000, 0x86), (0xC100, 0x12)])) (fun t =>
      decide (t.regs.a = 0x4E ∧ t.regs.flags = ⟨false, false, false, false⟩ ∧ t.cycles = 8)) = true := by
  decide +kernel

theorem test_R172_ADD_A_0xFF :
    gives (step (placed { blank with regs.a := 0x3C }
        [(0xC000, 0xC6), (0xC001, 0xFF)])) (fun t =>
      decide (t.regs.a = 0x3B ∧ t.regs.flags = ⟨false, false, true, true⟩ ∧ t.regs.pc = 0xC002 ∧ t.cycles = 8)) = true := by
  decide +kernel

theorem test_R173_ADC_A_B :
    gives (step (placed { blank with regs.a := 0xE1, regs.b := 0x0F, regs.flags.c := true }
        [(0xC000, 0x88)])) (fun t =>
      decide (t.regs.a = 0xF1 ∧ t.regs.flags = ⟨false, false, true, false⟩ ∧ t.cycles = 4)) = true := by
  decide +kernel

theorem test_R174_ADC_A_HL :
    gives (step (placed { blank with regs.a := 0xE1, regs.flags.c := true, regs.h := 0xC1, regs.l := 0x00 }
        [(0xC000, 0x8E), (0xC100, 0x1E)])) (fun t =>
      decide (t.regs.a = 0x00 ∧ t.regs.flags = ⟨true, false, true, true⟩ ∧ t.cycles = 8)) = true := by
  decide +kernel

theorem test_R175_ADC_A_0x3B :
    gives (step (placed { blank with regs.a := 0xE1, regs.flags.c := true }
        [(0xC000, 0xCE), (0xC001, 0x3B)])) (fun t =>
      decide (t.regs.a = 0x1D ∧ t.regs.flags = ⟨false, false, false, true⟩ ∧ t.regs.pc = 0xC002 ∧ t.cycles = 8)) = true := by
  decide +kernel

theorem test_R176_SUB_B :
    gives (step (placed { blank with regs.a := 0x3E, regs.b := 0x3E }
        [(0xC000, 0x90)])) (fun t =>
      decide (t.regs.a = 0x00 ∧ t.regs.flags = ⟨true, true, false, false⟩ ∧ t.cycles = 4)) = true := by
  decide +kernel

theorem test_R177_SUB_HL :
    gives (step (placed { blank with regs.a := 0x3E, regs.h := 0xC1, regs.l := 0x00 }
        [(0xC000, 0x96), (0xC100, 0x40)])) (fun t =>
      decide (t.regs.a = 0xFE ∧ t.regs.flags = ⟨false, true, false, true⟩ ∧ t.cycles = 8)) = true := by
  decide +kernel

theorem test_R178_SUB_0x0F :
    gives (step (placed { blank with regs.a := 0x3E }
        [(0xC000, 0xD6), (0xC001, 0x0F)])) (fun t =>
      decide (t.regs.a = 0x2F ∧ t.regs.flags = ⟨false, true, true, false⟩ ∧ t.regs.pc = 0xC002 ∧ t.cycles = 8)) = true := by
  decide +kernel

theorem test_R179_SBC_A_B :
    gives (step (placed { blank with regs.a := 0x3B, regs.b := 0x2A, regs.flags.c := true }
        [(0xC000, 0x98)])) (fun t =>
      decide (t.regs.a = 0x10 ∧ t.regs.flags = ⟨false, true, false, false⟩ ∧ t.cycles = 4)) = true := by
  decide +kernel

theorem test_R180_SBC_A_HL :
    gives (step (placed { blank with regs.a := 0x3B, regs.flags.c := true, regs.h := 0xC1, regs.l := 0x00 }
        [(0xC000, 0x9E), (0xC100, 0x4F)])) (fun t =>
      decide (t.regs.a = 0xEB ∧ t.regs.flags = ⟨false, true, true, true⟩ ∧ t.cycles = 8)) = true := by
  decide +kernel

theorem test_R181_SBC_A_0x3A :
    gives (step (placed { blank with regs.a := 0x3B, regs.flags.c := true }
        [(0xC000, 0xDE), (0xC001, 0x3A)])) (fun t =>
      decide (t.regs.a = 0x00 ∧ t.regs.flags = ⟨true, true, false, false⟩ ∧ t.regs.pc = 0xC002 ∧ t.cycles = 8)) = true := by
  decide +kernel

theorem test_R182_AND_B :
    gives (step (placed { blank with regs.a := 0x5A, regs.b := 0x3F }
        [(0xC000, 0xA0)])) (fun t =>
      decide (t.regs.a = 0x1A ∧ t.regs.flags = ⟨false, false, true, false⟩ ∧ t.cycles = 4)) = true := by
  decide +kernel

theorem test_R183_AND_HL :
    gives (step (placed { blank with regs.a := 0x5A, regs.h := 0xC1, regs.l := 0x00 }
        [(0xC000, 0xA6), (0xC100, 0x00)])) (fun t =>
      decide (t.regs.a = 0x00 ∧ t.regs.flags = ⟨true, false, true, false⟩ ∧ t.cycles = 8)) = true := by
  decide +kernel

theorem test_R184_AND_0x38 :
    gives (step (placed { blank with regs.a := 0x5A }
        [(0xC000, 0xE6), (0xC001, 0x38)])) (fun t =>
      decide (t.regs.a = 0x18 ∧ t.regs.flags = ⟨false, false, true, false⟩ ∧ t.regs.pc = 0xC002 ∧ t.cycles = 8)) = true := by
  decide +kernel

theorem test_R185_XOR_B :
    gives (step (placed { blank with regs.a := 0xFF, regs.b := 0x0F }
        [(0xC000, 0xA8)])) (fun t =>
      decide (t.regs.a = 0xF0 ∧ t.regs.flags = ⟨false, false, false, false⟩ ∧ t.cycles = 4)) = true := by
  decide +kernel

theorem test_R186_XOR_HL :
    gives (step (placed { blank with regs.a := 0xFF, regs.h := 0xC1, regs.l := 0x00 }
        [(0xC000, 0xAE), (0xC100, 0x8A)])) (fun t =>
      decide (t.regs.a = 0x75 ∧ t.regs.flags = ⟨false, false, false, false⟩ ∧ t.cycles = 8)) = true := by
  decide +kernel

theorem test_R187_XOR_0xFF :
    gives (step (placed { blank with regs.a := 0xFF }
        [(0xC000, 0xEE), (0xC001, 0xFF)])) (fun t =>
      decide (t.regs.a = 0x00 ∧ t.regs.flags = ⟨true, false, false, false⟩ ∧ t.regs.pc = 0xC002 ∧ t.cycles = 8)) = true := by
  decide +kernel

theorem test_R188_OR_B :
    gives (step (placed { blank with regs.a := 0x5A, regs.b := 0x03 }
        [(0xC000, 0xB0)])) (fun t =>
      decide (t.regs.a = 0x5B ∧ t.regs.flags = ⟨false, false, false, false⟩ ∧ t.cycles = 4)) = true := by
  decide +kernel

theorem test_R189_OR_HL :
    gives (step (placed { blank with regs.a := 0x00, regs.h := 0xC1, regs.l := 0x00 }
        [(0xC000, 0xB6), (0xC100, 0x00)])) (fun t =>
      decide (t.regs.a = 0x00 ∧ t.regs.flags = ⟨true, false, false, false⟩ ∧ t.cycles = 8)) = true := by
  decide +kernel

theorem test_R190_OR_0x0F :
    gives (step (placed { blank with regs.a := 0x5A }
        [(0xC000, 0xF6), (0xC001, 0x0F)])) (fun t =>
      decide (t.regs.a = 0x5F ∧ t.regs.flags = ⟨false, false, false, false⟩ ∧ t.regs.pc = 0xC002 ∧
        t.cycles = 8)) = true := by
  decide +kernel

theorem test_R191_CP_B :
    gives (step (placed { blank with regs.a := 0x3C, regs.b := 0x2F }
        [(0xC000, 0xB8)])) (fun t =>
      decide (t.regs.a = 0x3C ∧ t.regs.flags = ⟨false, true, true, false⟩ ∧ t.cycles = 4)) = true := by
  decide +kernel

theorem test_R192_CP_HL :
    gives (step (placed { blank with regs.a := 0x3C, regs.h := 0xC1, regs.l := 0x00 }
        [(0xC000, 0xBE), (0xC100, 0x40)])) (fun t =>
      decide (t.regs.a = 0x3C ∧ t.regs.flags = ⟨false, true, false, true⟩ ∧ t.cycles = 8)) = true := by
  decide +kernel

theorem test_R193_CP_0x3C :
    gives (step (placed { blank with regs.a := 0x3C }
        [(0xC000, 0xFE), (0xC001, 0x3C)])) (fun t =>
      decide (t.regs.a = 0x3C ∧ t.regs.flags = ⟨true, true, false, false⟩ ∧ t.regs.pc = 0xC002 ∧ t.cycles = 8)) = true := by
  decide +kernel

theorem test_R194_INC_A :
    gives (step (placed { blank with regs.a := 0xFF, regs.flags.c := false }
        [(0xC000, 0x3C)])) (fun t =>
      decide (t.regs.a = 0x00 ∧ t.regs.flags = ⟨true, false, true, false⟩ ∧ t.cycles = 4)) = true := by
  decide +kernel

theorem test_R195_INC_HL :
    gives (step (placed { blank with regs.h := 0xC1, regs.l := 0x00 }
        [(0xC000, 0x34), (0xC100, 0x4F)])) (fun t =>
      decide (t.read8 0xC100 = 0x50 ∧ t.regs.flags = ⟨false, false, true, false⟩ ∧ t.cycles = 12)) = true := by
  decide +kernel

theorem test_R197_DEC_HL :
    gives (step (placed { blank with regs.h := 0xC1, regs.l := 0x00 }
        [(0xC000, 0x35), (0xC100, 0x00)])) (fun t =>
      decide (t.read8 0xC100 = 0xFF ∧ t.regs.flags = ⟨false, true, true, false⟩ ∧ t.cycles = 12)) = true := by
  decide +kernel

theorem test_R198_DAA :
    gives (step (placed { blank with regs.a := 0x7D, regs.flags.n := false, regs.flags.h := false, regs.flags.c := false }
        [(0xC000, 0x27)])) (fun t =>
      decide (t.regs.a = 0x83 ∧ t.regs.flags = ⟨false, false, false, false⟩ ∧ t.cycles = 4)) = true := by
  decide +kernel

theorem test_R199_CPL :
    gives (step (placed { blank with regs.a := 0x35 }
        [(0xC000, 0x2F)])) (fun t =>
      decide (t.regs.a = 0xCA ∧ t.regs.flags = ⟨false, true, true, false⟩ ∧ t.cycles = 4)) = true := by
  decide +kernel

theorem test_R200_SCF :
    gives (step (placed { blank with regs.flags.z := true, regs.flags.n := true, regs.flags.h := true, regs.flags.c := false }
        [(0xC000, 0x37)])) (fun t =>
      decide (t.regs.flags = ⟨true, false, false, true⟩ ∧ t.cycles = 4)) = true := by
  decide +kernel

theorem test_R201_CCF :
    gives (step (placed { blank with regs.flags.z := false, regs.flags.n := true, regs.flags.h := true, regs.flags.c := true }
        [(0xC000, 0x3F)])) (fun t =>
      decide (t.regs.flags = ⟨false, false, false, false⟩ ∧ t.cycles = 4)) = true := by
  decide +kernel

theorem test_R210_ADD_HL_BC :
    gives (step (placed { blank with regs.h := 0x8A, regs.l := 0x23, regs.b := 0x06, regs.c := 0x05, regs.flags.z := true }
        [(0xC000, 0x09)])) (fun t =>
      decide (t.hl = 0x9028 ∧ t.regs.flags = ⟨true, false, true, false⟩ ∧ t.cycles = 8)) = true := by
  decide +kernel

theorem test_R211_INC_DE :
    gives (step (placed { blank with regs.d := 0x00, regs.e := 0xFF, regs.flags.z := true, regs.flags.c := true }
        [(0xC000, 0x13)])) (fun t =>
      decide (t.de = 0x0100 ∧ t.regs.flags = ⟨true, false, false, true⟩ ∧ t.cycles = 8)) = true := by
  decide +kernel

theorem test_R212_DEC_BC :
    gives (step (placed { blank with regs.b := 0x00, regs.c := 0x00 }
        [(0xC000, 0x0B)])) (fun t =>
      decide (t.bc = 0xFFFF ∧ t.regs.flags = ⟨false, false, false, false⟩ ∧ t.cycles = 8)) = true := by
  decide +kernel

theorem test_R213_ADD_SP_2 :
    gives (step (placed { blank with regs.sp := 0xD000 }
        [(0xC000, 0xE8), (0xC001, 0xFE)])) (fun t =>
      decide (t.regs.sp = 0xCFFE ∧ t.regs.flags = ⟨false, false, false, false⟩ ∧ t.regs.pc = 0xC002 ∧
        t.cycles = 16)) = true := by
  decide +kernel

theorem test_R220_RLCA :
    gives (step (placed { blank with regs.a := 0x85 }
        [(0xC000, 0x07)])) (fun t =>
      decide (t.regs.a = 0x0B ∧ t.regs.flags = ⟨false, false, false, true⟩ ∧ t.cycles = 4)) = true := by
  decide +kernel

theorem test_R221_RLA :
    gives (step (placed { blank with regs.a := 0x95, regs.flags.c := true }
        [(0xC000, 0x17)])) (fun t =>
      decide (t.regs.a = 0x2B ∧ t.regs.flags = ⟨false, false, false, true⟩ ∧ t.cycles = 4)) = true := by
  decide +kernel

theorem test_R222_RRCA :
    gives (step (placed { blank with regs.a := 0x3B }
        [(0xC000, 0x0F)])) (fun t =>
      decide (t.regs.a = 0x9D ∧ t.regs.flags = ⟨false, false, false, true⟩ ∧ t.cycles = 4)) = true := by
  decide +kernel

theorem test_R223_RRA :
    gives (step (placed { blank with regs.a := 0x81, regs.flags.c := false }
        [(0xC000, 0x1F)])) (fun t =>
      decide (t.regs.a = 0x40 ∧ t.regs.flags = ⟨false, false, false, true⟩ ∧ t.cycles = 4)) = true := by
  decide +kernel

theorem test_R224_RLC_B :
    gives (step (placed { blank with regs.b := 0x85, regs.flags.c := false }
        [(0xC000, 0xCB), (0xC001, 0x00)])) (fun t =>
      decide (t.regs.b = 0x0B ∧ t.regs.flags = ⟨false, false, false, true⟩ ∧ t.regs.pc = 0xC002 ∧ t.cycles = 8)) = true := by
  decide +kernel

theorem test_R225_RLC_HL :
    gives (step (placed { blank with regs.h := 0xC1, regs.l := 0x00, regs.flags.c := false }
        [(0xC000, 0xCB), (0xC001, 0x06), (0xC100, 0x85)])) (fun t =>
      decide (t.read8 0xC100 = 0x0B ∧ t.regs.flags = ⟨false, false, false, true⟩ ∧ t.cycles = 16)) = true := by
  decide +kernel

theorem test_R226_RRC_B :
    gives (step (placed { blank with regs.b := 0x01, regs.flags.c := false }
        [(0xC000, 0xCB), (0xC001, 0x08)])) (fun t =>
      decide (t.regs.b = 0x80 ∧ t.regs.flags = ⟨false, false, false, true⟩ ∧ t.regs.pc = 0xC002 ∧ t.cycles = 8)) = true := by
  decide +kernel

theorem test_R227_RRC_HL :
    gives (step (placed { blank with regs.h := 0xC1, regs.l := 0x00, regs.flags.c := false }
        [(0xC000, 0xCB), (0xC001, 0x0E), (0xC100, 0x01)])) (fun t =>
      decide (t.read8 0xC100 = 0x80 ∧ t.regs.flags = ⟨false, false, false, true⟩ ∧ t.cycles = 16)) = true := by
  decide +kernel

theorem test_R228_RL_B :
    gives (step (placed { blank with regs.b := 0x80, regs.flags.c := false }
        [(0xC000, 0xCB), (0xC001, 0x10)])) (fun t =>
      decide (t.regs.b = 0x00 ∧ t.regs.flags = ⟨true, false, false, true⟩ ∧ t.regs.pc = 0xC002 ∧ t.cycles = 8)) = true := by
  decide +kernel

theorem test_R229_RL_HL :
    gives (step (placed { blank with regs.h := 0xC1, regs.l := 0x00, regs.flags.c := false }
        [(0xC000, 0xCB), (0xC001, 0x16), (0xC100, 0x80)])) (fun t =>
      decide (t.read8 0xC100 = 0x00 ∧ t.regs.flags = ⟨true, false, false, true⟩ ∧ t.cycles = 16)) = true := by
  decide +kernel

theorem test_R230_RR_B :
    gives (step (placed { blank with regs.b := 0x01, regs.flags.c := false }
        [(0xC000, 0xCB), (0xC001, 0x18)])) (fun t =>
      decide (t.regs.b = 0x00 ∧ t.regs.flags = ⟨true, false, false, true⟩ ∧ t.regs.pc = 0xC002 ∧ t.cycles = 8)) = true := by
  decide +kernel

theorem test_R231_RR_HL :
    gives (step (placed { blank with regs.h := 0xC1, regs.l := 0x00, regs.flags.c := false }
        [(0xC000, 0xCB), (0xC001, 0x1E), (0xC100, 0x01)])) (fun t =>
      decide (t.read8 0xC100 = 0x00 ∧ t.regs.flags = ⟨true, false, false, true⟩ ∧ t.cycles = 16)) = true := by
  decide +kernel

theorem test_R232_SLA_B :
    gives (step (placed { blank with regs.b := 0x80, regs.flags.c := false }
        [(0xC000, 0xCB), (0xC001, 0x20)])) (fun t =>
      decide (t.regs.b = 0x00 ∧ t.regs.flags = ⟨true, false, false, true⟩ ∧ t.regs.pc = 0xC002 ∧ t.cycles = 8)) = true := by
  decide +kernel

theorem test_R233_SLA_HL :
    gives (step (placed { blank with regs.h := 0xC1, regs.l := 0x00, regs.flags.c := false }
        [(0xC000, 0xCB), (0xC001, 0x26), (0xC100, 0x80)])) (fun t =>
      decide (t.read8 0xC100 = 0x00 ∧ t.regs.flags = ⟨true, false, false, true⟩ ∧ t.cycles = 16)) = true := by
  decide +kernel

theorem test_R234_SRA_B :
    gives (step (placed { blank with regs.b := 0x8A, regs.flags.c := false }
        [(0xC000, 0xCB), (0xC001, 0x28)])) (fun t =>
      decide (t.regs.b = 0xC5 ∧ t.regs.flags = ⟨false, false, false, false⟩ ∧ t.regs.pc = 0xC002 ∧
        t.cycles = 8)) = true := by
  decide +kernel

theorem test_R235_SRA_HL :
    gives (step (placed { blank with regs.h := 0xC1, regs.l := 0x00, regs.flags.c := false }
        [(0xC000, 0xCB), (0xC001, 0x2E), (0xC100, 0x8A)])) (fun t =>
      decide (t.read8 0xC100 = 0xC5 ∧ t.regs.flags = ⟨false, false, false, false⟩ ∧ t.cycles = 16)) = true := by
  decide +kernel

theorem test_R236_SWAP_B :
    gives (step (placed { blank with regs.b := 0xF1, regs.flags.c := false }
        [(0xC000, 0xCB), (0xC001, 0x30)])) (fun t =>
      decide (t.regs.b = 0x1F ∧ t.regs.flags = ⟨false, false, false, false⟩ ∧ t.regs.pc = 0xC002 ∧
        t.cycles = 8)) = true := by
  decide +kernel

theorem test_R237_SWAP_HL :
    gives (step (placed { blank with regs.h := 0xC1, regs.l := 0x00, regs.flags.c := false }
        [(0xC000, 0xCB), (0xC001, 0x36), (0xC100, 0xF1)])) (fun t =>
      decide (t.read8 0xC100 = 0x1F ∧ t.regs.flags = ⟨false, false, false, false⟩ ∧ t.cycles = 16)) = true := by
  decide +kernel

theorem test_R238_SRL_B :
    gives (step (placed { blank with regs.b := 0x01, regs.flags.c := false }
        [(0xC000, 0xCB), (0xC001, 0x38)])) (fun t =>
      decide (t.regs.b = 0x00 ∧ t.regs.flags = ⟨true, false, false, true⟩ ∧ t.regs.pc = 0xC002 ∧ t.cycles = 8)) = true := by
  decide +kernel

theorem test_R239_SRL_HL :
    gives (step (placed { blank with regs.h := 0xC1, regs.l := 0x00, regs.flags.c := false }
        [(0xC000, 0xCB), (0xC001, 0x3E), (0xC100, 0x01)])) (fun t =>
      decide (t.read8 0xC100 = 0x00 ∧ t.regs.flags = ⟨true, false, false, true⟩ ∧ t.cycles = 16)) = true := by
  decide +kernel

theorem test_R240_BIT_7_A :
    gives (step (placed { blank with regs.a := 0x80, regs.flags.c := true }
        [(0xC000, 0xCB), (0xC001, 0x7F)])) (fun t =>
      decide (t.regs.a = 0x80 ∧ t.regs.flags = ⟨false, false, true, true⟩ ∧ t.cycles = 8)) = true := by
  decide +kernel

theorem test_R241_BIT_0_HL :
    gives (step (placed { blank with regs.h := 0xC1, regs.l := 0x00 }
        [(0xC000, 0xCB), (0xC001, 0x46), (0xC100, 0xFE)])) (fun t =>
      decide (t.regs.flags = ⟨true, false, true, false⟩ ∧ t.read8 0xC100 = 0xFE ∧ t.cycles = 12)) = true := by
  decide +kernel

theorem test_R242_RES_0_A :
    gives (step (placed { blank with regs.a := 0xFF, regs.flags.z := true }
        [(0xC000, 0xCB), (0xC001, 0x87)])) (fun t =>
      decide (t.regs.a = 0xFE ∧ t.regs.flags = ⟨true, false, false, false⟩ ∧ t.cycles = 8)) = true := by
  decide +kernel

theorem test_R243_RES_7_HL :
    gives (step (placed { blank with regs.h := 0xC1, regs.l := 0x00 }
        [(0xC000, 0xCB), (0xC001, 0xBE), (0xC100, 0xFF)])) (fun t =>
      decide (t.read8 0xC100 = 0x7F ∧ t.cycles = 16)) = true := by
  decide +kernel

theorem test_R244_SET_3_B :
    gives (step (placed { blank with regs.b := 0x00 }
        [(0xC000, 0xCB), (0xC001, 0xD8)])) (fun t =>
      decide (t.regs.b = 0x08 ∧ t.regs.flags = ⟨false, false, false, false⟩ ∧ t.cycles = 8)) = true := by
  decide +kernel

theorem test_R245_SET_0_HL :
    gives (step (placed { blank with regs.h := 0xC1, regs.l := 0x00 }
        [(0xC000, 0xCB), (0xC001, 0xC6), (0xC100, 0x80)])) (fun t =>
      decide (t.read8 0xC100 = 0x81 ∧ t.cycles = 16)) = true := by
  decide +kernel

theorem test_R260_JP_0x0150 :
    gives (step (placed blank
        [(0xC000, 0xC3), (0xC001, 0x50), (0xC002, 0x01)])) (fun t =>
      decide (t.regs.pc = 0x0150 ∧ t.cycles = 16)) = true := by
  decide +kernel

theorem test_R261_JP_Z_0x8000 :
    gives (step (placed { blank with regs.flags.z := false }
        [(0xC000, 0xCA), (0xC001, 0x00), (0xC002, 0x80)])) (fun t =>
      decide (t.regs.pc = 0xC003 ∧ t.cycles = 12)) = true := by
  decide +kernel

theorem test_R262_JP_HL :
    gives (step (placed { blank with regs.h := 0x40, regs.l := 0x00 }
        [(0xC000, 0xE9)])) (fun t =>
      decide (t.regs.pc = 0x4000 ∧ t.cycles = 4)) = true := by
  decide +kernel

theorem test_R263_JR_2 :
    gives (step (placed blank
        [(0xC000, 0x18), (0xC001, 0xFE)])) (fun t =>
      decide (t.regs.pc = 0xC000 ∧ t.cycles = 12)) = true := by
  decide +kernel

theorem test_R264_JR_NZ_5 :
    gives (step (placed { blank with regs.flags.z := false }
        [(0xC000, 0x20), (0xC001, 0x05)])) (fun t =>
      decide (t.regs.pc = 0xC007 ∧ t.cycles = 12)) = true := by
  decide +kernel

theorem test_R265_CALL_0x1234 :
    gives (step (placed { blank with regs.sp := 0xD000 }
        [(0xC000, 0xCD), (0xC001, 0x34), (0xC002, 0x12)])) (fun t =>
      decide (t.regs.pc = 0x1234 ∧ t.regs.sp = 0xCFFE ∧ t.read8 0xCFFE = 0x03 ∧ t.read8 0xCFFF = 0xC0 ∧
        t.cycles = 24)) = true := by
  decide +kernel

theorem test_R266_CALL_C_0x2000 :
    gives (step (placed { blank with regs.flags.c := true, regs.sp := 0xD000 }
        [(0xC000, 0xDC), (0xC001, 0x00), (0xC002, 0x20)])) (fun t =>
      decide (t.regs.pc = 0x2000 ∧ t.regs.sp = 0xCFFE ∧ t.read8 0xCFFE = 0x03 ∧ t.read8 0xCFFF = 0xC0 ∧
        t.cycles = 24)) = true := by
  decide +kernel

theorem test_R267_RET :
    gives (step (placed { blank with regs.sp := 0xCFFE }
        [(0xC000, 0xC9), (0xCFFE, 0x03), (0xCFFF, 0xC0)])) (fun t =>
      decide (t.regs.pc = 0xC003 ∧ t.regs.sp = 0xD000 ∧ t.cycles = 16)) = true := by
  decide +kernel

theorem test_R268_RET_NZ :
    gives (step (placed { blank with regs.flags.z := true, regs.sp := 0xCFFE }
        [(0xC000, 0xC0), (0xCFFE, 0x03), (0xCFFF, 0xC0)])) (fun t =>
      decide (t.regs.pc = 0xC001 ∧ t.regs.sp = 0xCFFE ∧ t.cycles = 8)) = true := by
  decide +kernel

theorem test_R269_RST_0x38 :
    gives (step (placed { blank with regs.sp := 0xD000 }
        [(0xC000, 0xFF)])) (fun t =>
      decide (t.regs.pc = 0x0038 ∧ t.regs.sp = 0xCFFE ∧ t.read8 0xCFFE = 0x01 ∧ t.read8 0xCFFF = 0xC0 ∧
        t.cycles = 16)) = true := by
  decide +kernel

theorem test_R270_RETI :
    gives (step (placed { blank with regs.sp := 0xCFFE, ime := false }
        [(0xC000, 0xD9), (0xCFFE, 0x50), (0xCFFF, 0x01)])) (fun t =>
      decide (t.regs.pc = 0x0150 ∧ t.regs.sp = 0xD000 ∧ t.ime = true ∧ t.cycles = 16)) = true := by
  decide +kernel

theorem test_R280_NOP :
    gives (step (placed blank
        [(0xC000, 0x00)])) (fun t =>
      decide (t.regs.pc = 0xC001 ∧ t.cycles = 4)) = true := by
  decide +kernel

theorem test_R281_HALT :
    gives (step (placed blank
        [(0xC000, 0x76)])) (fun t =>
      decide (t.regs.pc = 0xC001 ∧ t.runState = .halted ∧ t.cycles = 4)) = true := by
  decide +kernel

theorem test_R282_STOP :
    gives (step (placed blank
        [(0xC000, 0x10), (0xC001, 0x00)])) (fun t =>
      decide (t.regs.pc = 0xC002 ∧ t.runState = .stopped ∧ t.cycles = 4)) = true := by
  decide +kernel

theorem test_R283_DI :
    gives (step (placed { blank with ime := true }
        [(0xC000, 0xF3)])) (fun t =>
      decide (t.ime = false ∧ t.cycles = 4)) = true := by
  decide +kernel

theorem test_R284_EI :
    gives (step (placed { blank with ime := false }
        [(0xC000, 0xFB)])) (fun t =>
      decide (t.ime = true ∧ t.cycles = 4)) = true := by
  decide +kernel

theorem test_R286_illegal :
    gives (step (placed blank
        [(0xC000, 0xDD)])) (fun t =>
      decide (t.regs.pc = 0xC001 ∧ t.fatal = some ⟨.unknownOpcode, 0xC000, 0xDD⟩ ∧ t.cycles = 0)) = true := by
  decide +kernel

/-! ## Interrupts, run states, the bus and the PPU -/

/-- R377: V-Blank before Joypad. -/
theorem test_R377_priority :
    gives (step { blank with
        regs.pc := 0xC123, regs.sp := 0xD000, ime := true, ie := 0x11, iflag := 0x11 }) (fun t =>
      decide (t.iflag = 0x10 ∧ t.ime = false ∧ t.regs.sp = 0xCFFE ∧ t.read8 0xCFFE = 0x23 ∧ t.read8 0xCFFF = 0xC1 ∧
        t.regs.pc = 0x0040 ∧ t.cycles = 20)) = true := by decide +kernel

/-- Vector I13: the service push wraps and its low byte overwrites `IE`. -/
theorem test_I13_service_wraps :
    gives (step { blank with regs.sp := 0x0001, ime := true, ie := 0x01, iflag := 0x01 }) (fun t =>
      decide (t.regs.pc = 0x0040 ∧ t.regs.sp = 0xFFFF ∧ t.read8 0x0000 = 0xC0 ∧ t.ie = 0x00 ∧ t.iflag = 0x00)) =
      true := by decide +kernel

/-- Vector I11: a wake without service executes the next instruction in the same tick. -/
theorem test_I11_wake :
    gives (step (placed { blank with ie := 0x01, iflag := 0x01, runState := .halted } [(0xC000, 0x3C)])) (fun t =>
      decide (t.regs.pc = 0xC001 ∧ t.runState = .running ∧ t.regs.a = 0x01 ∧ t.cycles = 4)) = true := by
  decide +kernel

/-- Vector V47: `PUSH AF` with the high layout. -/
theorem test_V47_high_nibble :
    gives (step (placed { blank with
        cfg.flagNibble := .high, regs.a := 0x12, regs.sp := 0xD000
        regs.flags := { z := true, n := false, h := true, c := false } } [(0xC000, 0xF5)])) (fun t =>
      decide (t.read8 0xCFFF = 0x12 ∧ t.read8 0xCFFE = 0xA0)) = true := by decide +kernel

/-- Vector B1: what the registers read after reset. -/
theorem test_B1_reset_reads :
    [0xFF00, 0xFF0F, 0xFF40, 0xFF41, 0xFF44, 0xFF46, 0xFF47, 0xFF48, 0xFF50, 0xFFFF, 0xFF04].map State.reset.read8 =
      [0xCF, 0x00, 0x91, 0x06, 0x00, 0xFF, 0xFC, 0xFF, 0x01, 0x00, 0x00] := by decide +kernel

/-- Vector B4: `JOYP` with `a` and `right` pressed. -/
theorem test_B4_joypad :
    ([0x10, 0x20, 0x30, 0x00].map fun v =>
      (({ blank with input.a := true, input.right := true } : State).write8 0xFF00 v).read8 0xFF00) =
      [0xDE, 0xEE, 0xFF, 0xCE] := by decide +kernel

/-- Vector B7: an OAM copy from page 0xFF reads the registers. -/
theorem test_B7_copy_from_registers :
    (let t := State.reset.write8 0xFF46 0xFF
     (t.read8 0xFE00, t.read8 0xFE44, t.read8 0xFE46, t.read8 0xFE50)) = (0xCF, 0x00, 0xFF, 0x01) := by decide +kernel

/-- Vector B9: a 16-bit access across a sentinel window, and around the end of the address space. -/
theorem test_B9_word_accesses :
    (State.reset.write16 0xDFFF 0xABCD).read16 0xDFFF = 0xFFCD ∧
    (State.reset.write16 0xFFFF 0x1F2E).ie = 0x2E ∧ (State.reset.write16 0xFFFF 0x1F2E).read8 0x0000 = 0x1F := by
  decide +kernel

/-- Vector P5, row 0: the example of R303. -/
theorem test_P5_tile_row :
    ((List.range 8).map fun c => (tilePixel 0x3C 0x7E c).toNat) = [0, 2, 3, 3, 3, 3, 2, 0] := by decide

/-- Vector P2: the remainder is kept. -/
theorem test_P2_remainder :
    (let t := ppuTick 8 (ppuTick 76 State.reset)
     (t.ppu.mode, t.ppu.acc, t.ppu.ly)) = (.pixelTransfer, 4, 0) := by decide +kernel

/-- Vector P8: background tile 128 in the signed numbering is at 0x8800, tile 0 at 0x9000. -/
theorem test_P8_signed_tiles : bgTileAddr 0x81 0 = 0x9000 ∧ bgTileAddr 0x81 128 = 0x8800 := by decide

/-- `blank` in vector P9: sprites 0 to 10 on line 0, sprite 11 on line 8. -/
def crowd : State :=
  placed blank (((List.range 11).map fun i => (0xFE00 + 4 * i, 16)) ++ [(0xFE2C, 24)])

/-- Vector P9: ten sprites at most, the lowest indexes first. -/
theorem test_P9_selection :
    (crowd.oamSelect 0).map Sprite.index = List.range 10 ∧ (crowd.oamSelect 8).map Sprite.index = [11] ∧
    (crowd.oamSelect 7).map Sprite.index = List.range 10 := by decide +kernel

/-! ## Witnesses -/

/-- `AccumulatorAdjustments`: both branches of `DAA`. -/
theorem test_witness_daa_branches :
    blank.regs.flags.n = false ∧ ({ blank with regs.flags.n := true } : State).regs.flags.n = true := by decide

/-- `JumpResults`, `CallAndReturnResults`: each condition can hold and fail. -/
theorem test_witness_conditions :
    blank.regs.flags.z = false ∧ ({ blank with regs.flags.z := true } : State).regs.flags.z = true ∧
    blank.regs.flags.c = false ∧ ({ blank with regs.flags.c := true } : State).regs.flags.c = true := by decide

/-- `IllegalByteIsFatal`: the first and the last of the eleven bytes, with no record yet. -/
theorem test_witness_illegal : (0xD3 : Byte) ∈ illegalBytes ∧ (0xFD : Byte) ∈ illegalBytes ∧ blank.fatal = none := by
  decide

/-- `DecodeInvertsEncode`, `EncodeInvertsDecode`, `DecodingIsTotal`: an instruction of each length, bytes following. -/
theorem test_witness_round_trip :
    Instr.wellFormed .ldBC = true ∧ decode (encode .ldBC ++ [0x99, 0x98]) = .ok (.ldBC, [0x99, 0x98]) ∧
    Instr.wellFormed (.ldAN 0xAB) = true ∧ decode (encode (.ldAN 0xAB) ++ [0x99]) = .ok (.ldAN 0xAB, [0x99]) ∧
    Instr.wellFormed (.jpNn 0xFFFF) = true ∧ decode (encode (.jpNn 0xFFFF) ++ []) = .ok (.jpNn 0xFFFF, []) :=
  ⟨rfl, rfl, rfl, rfl, rfl, rfl⟩

/-- `StepRunsDecodedInstruction`: what the bytes of its witness decode to. -/
theorem test_witness_step_decodes : decode [0x3C, 0, 0] = .ok (.incA, [0, 0]) := rfl

/-- `StepRunsDecodedInstruction`: both ways no interrupt is served. -/
theorem test_witness_step_runs :
    (let s := placed blank [(0xC000, 0x3C)]
     s.stopFlag = false ∧ (beginIteration s).fatal = none ∧ (beginIteration s).runState = .running ∧
      (beginIteration s).ime = false ∧
      [(beginIteration s).read8 0xC000, (beginIteration s).read8 0xC001, (beginIteration s).read8 0xC002] =
        [0x3C, 0, 0]) ∧
    (let s := placed { blank with ime := true } [(0xC000, 0x3C)]
     (beginIteration s).fatal = none ∧ (beginIteration s).runState = .running ∧ (beginIteration s).pending = 0) := by
  decide +kernel

/-- `StepIsTotal`: a run that goes on, and one that has ended. -/
theorem test_witness_stop_flag :
    blank.stopFlag = false ∧ ({ blank with stopFlag := true } : State).stopFlag = true := by decide

/-- `InterruptService`: each source can be the smallest pending one. -/
theorem test_witness_service :
    (List.range 5).all (fun k =>
      let s : State := { blank with ime := true, ie := 0xFF, iflag := 0xFF <<< k }
      decide (s.fatal = none ∧ s.runState = .running ∧ bitOf (s.ie &&& s.iflag) k = true) &&
        (List.range k).all fun j => decide (bitOf (s.ie &&& s.iflag) j = false)) = true := by decide

/-- `IdleAndWakingTicks`: each of the five clauses. -/
theorem test_witness_idle :
    ({ blank with fatal := some { kind := .unknownOpcode, address := 0, opcode := 0xD3 } } : State).fatal ≠ none ∧
    (let s : State := { blank with runState := .stopped }
     s.fatal = none ∧ s.runState = .stopped ∧ s.input.anyPressed = false) ∧
    (let s : State := { blank with runState := .halted, ie := 0xE0, iflag := 0xFF }
     s.fatal = none ∧ s.runState = .halted ∧ s.ie &&& s.iflag &&& 0x1F = 0) ∧
    (let s : State := { blank with runState := .stopped, input.start := true }
     s.fatal = none ∧ s.runState = .stopped ∧ s.input.anyPressed = true) ∧
    (let s : State := { blank with runState := .halted, ie := 0x10, iflag := 0x10 }
     s.fatal = none ∧ s.runState = .halted ∧ s.ie &&& s.iflag &&& 0x1F ≠ 0) := by decide

/-- A state about to fetch an illegal byte. -/
def doomed : State := placed blank [(0xC000, 0xDD)]

/-- `StepKeepsInvariant`, `FatalIterationEndsRun`: a state with the invariant. -/
theorem test_witness_invariant : doomed.Inv := by
  constructor
  case bg_tiles =>
    exact ⟨by decide +kernel, fun t ht => List.eq_of_mem_replicate ht ▸ (by unfold Tile.shaped; decide)⟩
  case obj_tiles =>
    exact ⟨by decide +kernel, fun t ht => List.eq_of_mem_replicate ht ▸ (by unfold Tile.shaped; decide)⟩
  all_goals decide +kernel

/-- `StepKeepsInvariant`, `FatalIterationEndsRun`: its step, which writes the record. -/
theorem test_witness_fatal :
    doomed.fatal = none ∧
    gives (step doomed) (fun t => t.fatal.isSome && t.stopFlag && t.report.isSome) = true := by decide +kernel

/-- `RecordKeptAndStopFlag`: a record there before the step, a stop request, and a step that neither. -/
theorem test_witness_record :
    gives (step { blank with fatal := some { kind := .unknownOpcode, address := 0, opcode := 0xD3 } })
      (fun t => t.fatal.isSome && !t.stopFlag) = true ∧
    gives (step { blank with input.stopRequested := true }) (fun t => t.stopFlag && !t.fatal.isSome) = true ∧
    gives (step blank) (fun t => !t.stopFlag && !t.report.isSome) = true := by decide +kernel

/-- `WritersOfIme`: `EI` and `RETI` set it, `DI` and a service clear it. -/
theorem test_witness_ime :
    gives (exec .ei blank) (fun t => t.ime) = true ∧ blank.ime = false ∧
    gives (step (placed blank [(0xC000, 0xFB)])) (fun t => t.ime) = true ∧
    gives (step (placed blank [(0xC000, 0xD9)])) (fun t => t.ime) = true ∧
    gives (step (placed { blank with ime := true } [(0xC000, 0xF3)])) (fun t => !t.ime) = true ∧
    gives (step { blank with ime := true, ie := 1, iflag := 1 }) (fun t => !t.ime) = true := by decide +kernel

/-- A state one cycle before VBlank. -/
def lastLine : State :=
  { blank with io.lcdc := 0x80, ppu.mode := .hBlank, ppu.ly := 143, ppu.acc := 203 }

/-- `WritersOfRequests`: a service clears a request, and a step into VBlank sets bit 0. -/
theorem test_witness_requests :
    gives (step { blank with ime := true, ie := 0x1F, iflag := 0x1F })
      (fun t => !bitOf t.iflag 0 && bitOf t.iflag 4) = true ∧
    (bitOf lastLine.iflag 0 = false ∧
      gives (step lastLine) (fun t => bitOf t.iflag 0 && t.frameReady) = true) := by decide +kernel

/-- `FlagsWrittenOnlyAsListed`, `OtherFormsLeaveMemory`, `InstructionsLeaveOtherAgents`: a load between registers. -/
theorem test_witness_frames :
    Instr.wellFormed .ldBC = true ∧ writesFlags .ldBC = false ∧ storesTo blank .ldBC = none ∧
    gives (exec .ldBC blank) (fun _ => true) = true := by decide +kernel

/-- `StoresLeaveOtherBytes`: a byte stored at 0xFF44, beside the excluded registers, and a word that wraps into 0. -/
theorem test_witness_stores :
    storesTo blank (.ldhAtNA 0x44) = some (0xFF44, 1) ∧ (0xFF44 : Word) ∉ ([0xFF46, 0xFF50] : List Word) ∧
    gives (exec (.ldhAtNA 0x44) blank) (fun _ => true) = true ∧
    storesTo { blank with regs.sp := 0x0001 } .pushBc = some (0xFFFF, 2) ∧
    (0xFFFF + BitVec.ofNat 16 1 : Word) ∉ ([0xFF46, 0xFF50] : List Word) ∧
    gives (exec .pushBc { blank with regs.sp := 0x0001 }) (fun _ => true) = true := by decide +kernel

/-- `StoresLeaveOtherBytes`, the clause of `LYC`: a store there of the line counter's value sets the compare flag, and
`STAT` reads differently in bit 2. -/
theorem test_witness_stores_lyc :
    let s := { blank with regs.a := 0x05, ppu.ly := 5 }
    storesTo s (.ldhAtNA 0x45) = some (0xFF45, 1) ∧ (0xFF45 : Word) ∉ ([0xFF46, 0xFF50] : List Word) ∧
    bitOf (s.read8 0xFF41) 2 = false ∧
    gives (exec (.ldhAtNA 0x45) s) (fun t => t.read8 0xFF41 == s.read8 0xFF41 ||| 0x04) = true := by decide +kernel

/-- `OverlayIsOneShot`, `OverlayRemoval`: both values of the flag, and a step. -/
theorem test_witness_overlay :
    blank.bootActive = false ∧ gives (step blank) (fun t => !t.bootActive) = true ∧
    (State.resetWith { bootImage := some [] }).bootActive = true := by decide +kernel

/-- `PpuHeldWhileDisabled`, `PpuTransitionTable`: every clause, at its threshold. -/
theorem test_witness_transitions :
    bitOf blank.io.lcdc 7 = false ∧ bitOf State.reset.io.lcdc 7 = true ∧
    (let at' := fun (m : PpuMode) (acc ly : Nat) =>
      ({ State.reset with ppu.mode := m, ppu.acc := acc, ppu.ly := ly } : State)
     (at' .oamScan 79 0).ppu.acc + 0 < (at' .oamScan 79 0).ppu.mode.threshold ∧
     (at' .oamScan 79 0).ppu.mode = .oamScan ∧ 80 ≤ (at' .oamScan 79 0).ppu.acc + 1 ∧
     (at' .pixelTransfer 171 0).ppu.mode = .pixelTransfer ∧ 172 ≤ (at' .pixelTransfer 171 0).ppu.acc + 1 ∧
     (at' .hBlank 203 142).ppu.mode = .hBlank ∧ 204 ≤ (at' .hBlank 203 142).ppu.acc + 1 ∧
     (at' .hBlank 203 142).ppu.ly ≠ 143 ∧ (at' .hBlank 203 143).ppu.ly = 143 ∧
     (at' .vBlank 455 152).ppu.mode = .vBlank ∧ 456 ≤ (at' .vBlank 455 152).ppu.acc + 1 ∧
     (at' .vBlank 455 152).ppu.ly + 1 ≠ 144 + (at' .vBlank 455 152).cfg.vblankLines ∧
     (at' .vBlank 455 153).ppu.ly + 1 = 144 + (at' .vBlank 455 153).cfg.vblankLines) := by decide +kernel

/-- `LineTakes456Cycles`, `FrameRaisesOneFrameReady`: the reset state, and the last visible line. -/
theorem test_witness_lines :
    bitOf State.reset.io.lcdc 7 = true ∧ State.reset.ppu.mode = .oamScan ∧ State.reset.ppu.acc = 0 ∧
    State.reset.ppu.ly = 0 ∧ 1 ≤ State.reset.cfg.vblankLines ∧ [80, 172, 203, 1].sum = 456 ∧
    [70000, 224].sum = 456 * 144 + 456 * State.reset.cfg.vblankLines ∧
    (let s : State := { State.reset with ppu.ly := 143 }
     bitOf s.io.lcdc 7 = true ∧ s.ppu.mode = .oamScan ∧ s.ppu.acc = 0 ∧ s.ppu.ly < 144) := by decide +kernel

/-- `BackgroundAndWindowPixels`: the three clauses, at the last pixel of the last line. -/
theorem test_witness_background :
    143 < blank.ppu.fb.length ∧ bitOf blank.io.lcdc 1 = false ∧ bitOf blank.io.lcdc 0 = false ∧
    (let s : State := { blank with io.lcdc := 0xF1, io.wy := 143, io.wx := 166 }
     143 < s.ppu.fb.length ∧ bitOf s.io.lcdc 1 = false ∧ bitOf s.io.lcdc 0 = true ∧ bitOf s.io.lcdc 5 = true ∧
      s.io.wy.toNat ≤ 143 ∧ s.io.wx.toNat ≤ 159 + 7 ∧ ¬ s.io.wx.toNat ≤ 158 + 7) := by decide +kernel

/-- A sprite at the left edge of line 0, its tile's first pixel of colour index 3. -/
def oneSprite : State :=
  placed { blank with
    io.lcdc := 0x93, io.obp0 := 0xE4
    ppu.selected := [{ index := 0, y := 16, x := 8, tile := 1, attr := 0 }] } [(0x8010, 0x80), (0x8011, 0x80)]

/-- `LastOpaqueSpriteWins`: pixel 0 is opaque (row 0 of tile 1, bit 7 of both planes), no sprite follows, and the
sprite shows. -/
theorem test_witness_sprite :
    bitOf oneSprite.io.lcdc 1 = true ∧
    oneSprite.ppu.selected = [] ++ { index := 0, y := 16, x := 8, tile := 1, attr := 0 } :: [] ∧
    bitOf (Memory.get oneSprite.mem (0x8000 + 16 * 1 + 2 * 0)) 7 = true ∧
    bitOf (Memory.get oneSprite.mem (0x8000 + 16 * 1 + 2 * 0 + 1)) 7 = true ∧
    ((oneSprite.decodeTiles.linePixels 0).getD 0 0).toNat = 3 := by decide +kernel

/-- `BackgroundAndWindowPixels` with sprites enabled: at pixel 1 of line 0 the one selected sprite covers and has colour
index 0, both planes clear at bit 6, and the background's shade, of index 1 through `BGP`, shows. -/
theorem test_witness_transparent_sprite :
    let s := placed { oneSprite with io.bgp := 0xE4 } [(0x8000, 0x40)]
    bitOf s.io.lcdc 1 = true ∧ s.ppu.selected = [{ index := 0, y := 16, x := 8, tile := 1, attr := 0 }] ∧
    bitOf (Memory.get s.mem 0x8010) 6 = false ∧ bitOf (Memory.get s.mem 0x8011) 6 = false ∧
    bitOf (Memory.get s.mem 0x8000) 6 = true ∧
    (((s.decodeTiles.drawLine 0).ppu.fb.getD 0 []).getD 1 0).toNat = 1 := by decide +kernel

/-- `OamScanSelects`: an entry that meets the line and is selected, and one left out because ten were. -/
theorem test_witness_oam_scan :
    crowd.oamEntry 0 ∈ crowd.oamSelect 0 ∧ crowd.oamEntry 10 ∉ crowd.oamSelect 0 ∧ (crowd.oamSelect 0).length = 10 ∧
    (crowd.oamEntry 10).onLine 8 0 = true := by decide +kernel

/-- `AddressMap`, `StorageAndSentinels`: both ends of every row of R66. -/
theorem test_witness_regions :
    [0x0000, 0x7FFF, 0x8000, 0x9FFF, 0xA000, 0xBFFF, 0xC000, 0xDFFF, 0xE000, 0xFDFF, 0xFE00, 0xFE9F, 0xFEA0, 0xFEFF,
      0xFF01, 0xFF7F, 0xFF80, 0xFFFE, 0xFFFF].map regionOf =
    [.rom, .rom, .vram, .vram, .xram, .xram, .wram, .wram, .echo, .echo, .oam, .oam, .unusable, .unusable, .io, .io,
      .hram, .hram, .enable] := by decide

/-- `OamCopyResult`: the first and the last address outside OAM. -/
theorem test_witness_copy_frame : regionOf 0xFDFF ≠ .oam ∧ regionOf 0xFEA0 ≠ .oam := by decide

/-- `WordAccesses`, `PushThenPop`: two stored bytes, across two regions, and around the end of high RAM. -/
theorem test_witness_word_cells :
    targetOf 0x7FFF = .cell ∧ targetOf 0x8000 = .cell ∧ targetOf 0xFFFD = .cell ∧ targetOf 0xFFFE = .cell := by decide

/-- `PushThenPop`: a push and a pop that run, of two pairs and of `AF`. -/
theorem test_witness_push_pop :
    gives (exec .pushBc { blank with regs.b := 0x12, regs.sp := 0xFFFF })
      (fun t => gives (exec .popDe t) (fun u => decide (u.regs.d = 0x12 ∧ u.regs.sp = 0xFFFF))) = true ∧
    gives (exec .pushAf { blank with regs.a := 0x12, regs.sp := 0xFFFF })
      (fun t => gives (exec .popAf t) (fun u => decide (u.regs.a = 0x12))) = true := by decide +kernel

/-- `ResetValues`: a stored byte of either configuration, below and from 256 on. -/
theorem test_witness_reset_bytes :
    targetOf 0x00FF = .cell ∧ targetOf 0x0100 = .cell ∧ targetOf 0x7FFF = .cell ∧ targetOf 0x8000 = .cell ∧
    (State.resetWith { cartImage := [(0x00FF, 1), (0x0100, 2)], bootImage := some [(0x00FF, 3)] }).read8 0x00FF = 3 ∧
    (State.resetWith { cartImage := [(0x00FF, 1), (0x0100, 2)], bootImage := some [(0x00FF, 3)] }).read8 0x0100 = 2 := by
  decide +kernel

/-- `ResetMeetsInvariant`: the default parameters are valid, and so are others. -/
theorem test_witness_config :
    Config.valid {} ∧ Config.valid { vblankLines := 1, cartImage := [(0, 1)], bootImage := some [] } := by
  unfold Config.valid; decide

end Sys2Proof.Machine
end

section
/-!
PROOFS. What each part of a step leaves alone, field by field, so that no later proof unfolds the step.
-/

namespace Sys2Proof.Machine

section
variable (s : State)

/-! ## Operations of the Processor -/

@[simp] theorem State.aluA_ime (op : AluOp) (v : Byte) : (s.aluA op v).ime = s.ime := rfl
@[simp] theorem State.aluA_iflag (op : AluOp) (v : Byte) : (s.aluA op v).iflag = s.iflag := rfl

@[simp] theorem raiseFatal_ime (kind : FatalKind) (a : Word) (op : Byte) : (raiseFatal kind a op s).ime = s.ime := by
  unfold raiseFatal; split <;> rfl
@[simp] theorem raiseFatal_iflag (kind : FatalKind) (a : Word) (op : Byte) :
    (raiseFatal kind a op s).iflag = s.iflag := by
  unfold raiseFatal; split <;> rfl
@[simp] theorem raiseFatal_regs (kind : FatalKind) (a : Word) (op : Byte) :
    (raiseFatal kind a op s).regs = s.regs := by
  unfold raiseFatal; split <;> rfl

@[simp] theorem serviceInterrupt_ime (p : Byte) : (serviceInterrupt p s).ime = false := by simp [serviceInterrupt]
@[simp] theorem serviceInterrupt_iflag (p : Byte) :
    (serviceInterrupt p s).iflag = s.iflag &&& ~~~(bitMask (firstSource p)) := by simp [serviceInterrupt]

/-! ## The top of an iteration -/

@[simp] theorem beginIteration_ime : (beginIteration s).ime = s.ime := by rw [beginIteration_only]
@[simp] theorem beginIteration_ie : (beginIteration s).ie = s.ie := by rw [beginIteration_only]
@[simp] theorem beginIteration_iflag : (beginIteration s).iflag = s.iflag := by rw [beginIteration_only]
@[simp] theorem beginIteration_fatal : (beginIteration s).fatal = s.fatal := by rw [beginIteration_only]
@[simp] theorem beginIteration_mem : (beginIteration s).mem = s.mem := by rw [beginIteration_only]
@[simp] theorem beginIteration_bootActive : (beginIteration s).bootActive = s.bootActive := by
  rw [beginIteration_only]
@[simp] theorem beginIteration_io : (beginIteration s).io = s.io := by rw [beginIteration_only]
@[simp] theorem beginIteration_ppu : (beginIteration s).ppu = s.ppu := by rw [beginIteration_only]
@[simp] theorem beginIteration_stopFlag : (beginIteration s).stopFlag = s.stopFlag := by rw [beginIteration_only]
@[simp] theorem beginIteration_cfg : (beginIteration s).cfg = s.cfg := by rw [beginIteration_only]
@[simp] theorem beginIteration_frameReady : (beginIteration s).frameReady = false := by rw [beginIteration_only]
@[simp] theorem beginIteration_pending : (beginIteration s).pending = s.pending := by simp [State.pending]

/-! ## The PPU's tick -/

variable (c : Nat)

@[simp] theorem ppuTick_ime : (ppuTick c s).ime = s.ime := by rw [(ppuTick_only c s).1]
@[simp] theorem ppuTick_fatal : (ppuTick c s).fatal = s.fatal := by rw [(ppuTick_only c s).1]
@[simp] theorem ppuTick_mem : (ppuTick c s).mem = s.mem := by rw [(ppuTick_only c s).1]
@[simp] theorem ppuTick_bootActive : (ppuTick c s).bootActive = s.bootActive := by rw [(ppuTick_only c s).1]
@[simp] theorem ppuTick_io : (ppuTick c s).io = s.io := by rw [(ppuTick_only c s).1]
@[simp] theorem ppuTick_input : (ppuTick c s).input = s.input := by rw [(ppuTick_only c s).1]
@[simp] theorem ppuTick_stopFlag : (ppuTick c s).stopFlag = s.stopFlag := by rw [(ppuTick_only c s).1]
@[simp] theorem ppuTick_cfg : (ppuTick c s).cfg = s.cfg := by rw [(ppuTick_only c s).1]

/-! ## The bottom of an iteration -/

variable (before : Option FatalRecord)

@[simp] theorem endIteration_ime : (endIteration before s).ime = s.ime := rfl
@[simp] theorem endIteration_iflag : (endIteration before s).iflag = s.iflag := rfl
@[simp] theorem endIteration_fatal : (endIteration before s).fatal = s.fatal := rfl
@[simp] theorem endIteration_mem : (endIteration before s).mem = s.mem := rfl
@[simp] theorem endIteration_bootActive : (endIteration before s).bootActive = s.bootActive := rfl
@[simp] theorem endIteration_io : (endIteration before s).io = s.io := rfl
@[simp] theorem endIteration_ppu : (endIteration before s).ppu = s.ppu := rfl
@[simp] theorem endIteration_input : (endIteration before s).input = s.input := rfl
@[simp] theorem endIteration_frameReady : (endIteration before s).frameReady = s.frameReady := rfl
@[simp] theorem endIteration_cfg : (endIteration before s).cfg = s.cfg := rfl

/-- A record is reported in the iteration that wrote it, and in no other (R349). -/
theorem endIteration_report : (endIteration before s).report = if before = none then s.fatal else none := by
  cases before <;> rfl

/-- The run ends with a report or a stop request (R348, R349). -/
theorem endIteration_stopFlag :
    (endIteration before s).stopFlag =
      (s.stopFlag || (endIteration before s).report.isSome || s.input.stopRequested) := rfl

end

end Sys2Proof.Machine
end

section
/-!
PROOFS. What an instruction may do to the interrupt state and to the flags: one case split over the instructions for
each, after which a tick and a step are a few cases.
-/

namespace Sys2Proof.Machine

variable {i : Instr} {s t u : State}

theorem finish_eq_next {k : Nat} (h : finish k s = .next t) : t = { s with cycles := k } := by
  cases h; rfl

/-- A conditional meaning: what holds at the end of both branches holds of the state it answers. -/
theorem next_of_ite {P : State → Prop} {c : Prop} [Decidable c] {k l : Nat}
    (h : (if c then finish k s else finish l t) = .next u) (hs : P { s with cycles := k })
    (ht : P { t with cycles := l }) : P u := by
  split at h <;> cases h <;> assumption

/-- What an instruction may do to `IME` and `IF`: `DI` clears `IME`, `EI` and `RETI` set it, and no instruction changes
`IF`. -/
structure InterruptWrites (i : Instr) (s t : State) : Prop where
  iflag : t.iflag = s.iflag
  ime : (i = .di ∧ t.ime = false) ∨ ((i = .ei ∨ i = .reti) ∧ t.ime = true) ∨ t.ime = s.ime

theorem execSecondary_interrupts {op2 : Byte} (h : execSecondary op2 s = .next t) :
    t.iflag = s.iflag ∧ t.ime = s.ime := by
  unfold execSecondary at h
  cases hr : Reg8.ofCode (op2.toNat % 8) with
  | some r =>
    simp only [hr] at h
    split at h <;> obtain rfl := finish_eq_next h <;> simp
  | none =>
    simp only [hr] at h
    split at h <;> obtain rfl := finish_eq_next h <;> simp

/-- Every instruction but the kinds named first ends by `finish` in a state built from operations that leave `IME`
and `IF` alone. -/
theorem exec_interrupts (h : exec i s = .next t) : InterruptWrites i s t := by
  cases i
  case di => cases h; exact ⟨rfl, .inl ⟨rfl, rfl⟩⟩
  case ei | reti => cases h; exact ⟨rfl, .inr (.inl ⟨by simp, rfl⟩)⟩
  case prefixCb =>
    obtain ⟨hiflag, hime⟩ := execSecondary_interrupts h
    exact ⟨hiflag, .inr (.inr hime)⟩
  case jpNzNn | jpZNn | jpNcNn | jpCNn | jrNzDisp | jrZDisp | jrNcDisp | jrCDisp | callNzNn | callZNn | callNcNn
      | callCNn | retNz | retZ | retNc | retC =>
    exact next_of_ite h ⟨by simp, .inr (.inr (by simp))⟩ ⟨rfl, .inr (.inr rfl)⟩
  all_goals
    obtain rfl := finish_eq_next h
    exact ⟨by simp, .inr (.inr (by simp))⟩

/-- An instruction outside the table of R32 builds its next state from operations that leave the flags alone. -/
theorem exec_flags (hi : i.wellFormed = true) (hw : writesFlags i = false) (h : exec i s = .next t) :
    t.regs.flags = s.regs.flags := by
  cases i
  all_goals cases hw
  case prefixCb => cases hi
  case jpNzNn | jpZNn | jpNcNn | jpCNn | jrNzDisp | jrZDisp | jrNcDisp | jrCDisp | callNzNn | callZNn | callNcNn
      | callCNn | retNz | retZ | retNc | retC =>
    exact next_of_ite (P := fun u => u.regs.flags = s.regs.flags) h (by simp) rfl
  case popBc | popDe | popHl | reti => cases h; rfl
  all_goals
    obtain rfl := finish_eq_next h
    simp

/-! ## A tick -/

/-- A tick that is not idle finds no fatal record (R344). -/
theorem State.fatal_of_not_idle (h : s.idleCycles = none) : s.fatal = none := by
  unfold State.idleCycles at h
  split at h
  · cases h
  · next hf => simpa using hf

/-- The service of the smallest pending source, as far as `IME` and `IF` show it (R364). -/
structure Services (s u : State) : Prop where
  ime : s.ime = true
  pending : s.pending ≠ 0
  ime_after : u.ime = false
  iflag : u.iflag = s.iflag &&& ~~~(bitMask (firstSource s.pending))

/-- What a Processor tick may do to `IME` and `IF`: nothing, or without a fatal record an interrupt service or what the
fetched instruction does. -/
theorem processorTick_interrupts (h : processorTick s = .next u) :
    (u.iflag = s.iflag ∧ u.ime = s.ime) ∨ (s.fatal = none ∧ (Services s u ∨ InterruptWrites s.fetchDecode.1 s u)) := by
  rcases processorTick_cases s with ⟨k, _, htick⟩ | ⟨hidle, hime, hpending, htick⟩ | ⟨hidle, _, htick⟩
  · obtain rfl := finish_eq_next (htick.symm.trans h)
    exact .inl ⟨rfl, rfl⟩
  · obtain rfl := finish_eq_next (htick.symm.trans h)
    exact .inr ⟨State.fatal_of_not_idle hidle, .inl ⟨hime, hpending, by simp, by simp⟩⟩
  · have hw := exec_interrupts (htick.symm.trans h)
    exact .inr ⟨State.fatal_of_not_idle hidle, .inr ⟨hw.iflag, hw.ime⟩⟩

/-- The Processor sets no request bit. -/
theorem processorTick_iflag (h : processorTick s = .next u) : ∃ m, u.iflag = s.iflag &&& m := by
  rcases processorTick_interrupts h with ⟨hi, _⟩ | ⟨_, hs | hw⟩
  · exact ⟨BitVec.allOnes 8, by rw [hi, BitVec.and_allOnes]⟩
  · exact ⟨_, hs.iflag⟩
  · exact ⟨BitVec.allOnes 8, by rw [hw.iflag, BitVec.and_allOnes]⟩

/-- How a tick may change `IME`. -/
theorem processorTick_ime (h : processorTick s = .next u) :
    u.ime = s.ime ∨
    (s.fatal = none ∧ (s.fetchDecode.1 = .ei ∨ s.fetchDecode.1 = .reti) ∧ u.ime = true) ∨
    (s.fatal = none ∧ (s.fetchDecode.1 = .di ∨ s.pending ≠ 0) ∧ u.ime = false) := by
  rcases processorTick_interrupts h with ⟨_, hime⟩ | ⟨hf, hs | hw⟩
  · exact .inl hime
  · exact .inr (.inr ⟨hf, .inr hs.pending, hs.ime_after⟩)
  · rcases hw.ime with ⟨hi, hime⟩ | ⟨hi, hime⟩ | hime
    · exact .inr (.inr ⟨hf, .inl hi, hime⟩)
    · exact .inr (.inl ⟨hf, hi, hime⟩)
    · exact .inl hime

end Sys2Proof.Machine
end

section
/-!
PROOFS. The PPU keeps the shape of its state: the part of the invariant that every mode's end keeps, and what the tick
adds to it.
-/

namespace Sys2Proof.Machine

/-! ## Lines, tiles and the OAM scan -/

theorem decodeTile_shaped (m : Memory) (a : Nat) : Tile.shaped (decodeTile m a) := by
  simp [Tile.shaped, decodeTile]

section
variable (s : State)

theorem State.overlayPixel_length (sp : Sprite) (t row p : Nat) (line : List Colour) :
    (s.overlayPixel sp t row line p).length = line.length := by
  simp [State.overlayPixel, apply_ite List.length]

theorem State.overlaySprite_length (L : Nat) (sp : Sprite) (line : List Colour) :
    (s.overlaySprite L line sp).length = line.length := by
  unfold State.overlaySprite
  split
  · exact List.foldlRecOn (motive := fun l : List Colour => l.length = line.length) _ _ rfl fun _ hl _ _ =>
      (s.overlayPixel_length ..).trans hl
  · rfl

theorem State.linePixels_length (L : Nat) : (s.linePixels L).length = 160 := by
  unfold State.linePixels
  dsimp only
  split
  · exact List.foldlRecOn (motive := fun l : List Colour => l.length = 160) _ _ (by simp) fun _ hl _ _ =>
      (s.overlaySprite_length ..).trans hl
  · simp

theorem State.oamSelect_length (L : Nat) : (s.oamSelect L).length ≤ 10 := List.length_take_le _ _

/-- The scan takes entries of OAM in table order (R304). -/
theorem State.oamSelect_sublist (L : Nat) : (s.oamSelect L).Sublist ((List.range 40).map s.oamEntry) :=
  (List.take_sublist _ _).trans List.filter_sublist

theorem State.map_index_oamEntry : ((List.range 40).map s.oamEntry).map Sprite.index = List.range 40 := by
  rw [List.map_map]; exact List.map_id _

theorem State.oamSelect_index (L : Nat) :
    ((s.oamSelect L).map Sprite.index).Pairwise (· < ·) ∧ ∀ sp ∈ s.oamSelect L, sp.index < 40 := by
  have h : ((s.oamSelect L).map Sprite.index).Sublist (List.range 40) :=
    s.map_index_oamEntry ▸ (s.oamSelect_sublist L).map Sprite.index
  exact ⟨List.pairwise_lt_range.sublist h, fun sp hsp => List.mem_range.1 (h.subset (List.mem_map_of_mem hsp))⟩

end

/-! ## The shape that every mode's end keeps -/

/-- The fields of the invariant about the PPU's line, sprites, framebuffer and caches. Unlike the others they hold
between two modes as well, with any accumulator. -/
structure State.PpuShaped (s : State) : Prop where
  line : s.ppu.ly < 144 + s.cfg.vblankLines
  vblank : s.ppu.mode = .vBlank ↔ 144 ≤ s.ppu.ly
  sprites : s.ppu.selected.length ≤ 10
  sprite_index : (s.ppu.selected.map Sprite.index).Pairwise (· < ·) ∧ ∀ sp ∈ s.ppu.selected, sp.index < 40
  frame : s.ppu.fb.length = 144 ∧ ∀ row ∈ s.ppu.fb, row.length = 160
  bg_tiles : s.ppu.bgTiles.length = 256 ∧ ∀ t ∈ s.ppu.bgTiles, Tile.shaped t
  obj_tiles : s.ppu.objTiles.length = 256 ∧ ∀ t ∈ s.ppu.objTiles, Tile.shaped t

namespace State.PpuShaped
variable {s : State}

theorem of_inv (h : s.Inv) : s.PpuShaped :=
  ⟨h.line, h.vblank, h.sprites, h.sprite_index, h.frame, h.bg_tiles, h.obj_tiles⟩

theorem congr {t : State} (h : s.PpuShaped) (hp : t.ppu = s.ppu) (hc : t.cfg = s.cfg) : t.PpuShaped := by
  constructor <;> rw [hp]
  · exact hc ▸ h.line
  exacts [h.vblank, h.sprites, h.sprite_index, h.frame, h.bg_tiles, h.obj_tiles]

/-- The modes other than VBlank belong to the lines below 144 (R297). -/
theorem visible (h : s.PpuShaped) (hm : s.ppu.mode ≠ .vBlank) : s.ppu.ly < 144 :=
  Nat.lt_of_not_le fun hle => hm (h.vblank.2 hle)

theorem setMode (h : s.PpuShaped) {m : PpuMode} (hs : s.ppu.mode ≠ .vBlank) (hm : m ≠ .vBlank) :
    ({ s with ppu.mode := m } : State).PpuShaped :=
  { h with vblank := iff_of_false hm (Nat.not_le_of_lt (h.visible hs)) }

theorem setAcc (h : s.PpuShaped) (n : Nat) : ({ s with ppu.acc := n } : State).PpuShaped := { h with }

theorem decodeTiles (h : s.PpuShaped) : s.decodeTiles.PpuShaped :=
  { h with
    bg_tiles := ⟨by simp [State.decodeTiles], by simp [State.decodeTiles, decodeTile_shaped]⟩
    obj_tiles := ⟨by simp [State.decodeTiles], by simp [State.decodeTiles, decodeTile_shaped]⟩ }

theorem drawLine (h : s.PpuShaped) (L : Nat) : (s.drawLine L).PpuShaped :=
  { h with
    frame := by
      obtain ⟨hlength, hrow⟩ := h.frame
      refine ⟨List.length_set.trans hlength, fun row hr => ?_⟩
      rcases List.mem_or_eq_of_mem_set hr with hr | rfl
      · exact hrow row hr
      · exact s.linePixels_length L }

theorem beginLine (h : s.PpuShaped) {L : Nat} (hL : L < 144) : (beginLine L s).PpuShaped :=
  { h with
    line := Nat.lt_add_right _ hL
    vblank := iff_of_false nofun (Nat.not_le_of_lt hL)
    sprites := s.oamSelect_length L
    sprite_index := s.oamSelect_index L }

theorem beginVBlank (h : s.PpuShaped) (hlines : 1 ≤ s.cfg.vblankLines) : (beginVBlank s).PpuShaped :=
  { h with
    line := Nat.lt_add_of_pos_right hlines
    vblank := iff_of_true rfl (Nat.le_refl 144) }

theorem endPixelTransfer (h : s.PpuShaped) (hm : s.ppu.mode = .pixelTransfer) : (endPixelTransfer s).PpuShaped := by
  have hvisible : s.decodeTiles.ppu.mode ≠ .vBlank := by simp [State.decodeTiles, hm]
  exact (h.decodeTiles.setMode (m := .hBlank) hvisible nofun).drawLine s.ppu.ly

theorem endHBlank (h : s.PpuShaped) (hlines : 1 ≤ s.cfg.vblankLines) (hm : s.ppu.mode = .hBlank) :
    (endHBlank s).PpuShaped := by
  have hly := h.visible (by simp [hm])
  unfold Machine.endHBlank
  split
  · exact h.beginVBlank hlines
  · exact h.beginLine (by omega)

theorem endVBlankLine (h : s.PpuShaped) (hm : s.ppu.mode = .vBlank) : (endVBlankLine s).PpuShaped := by
  have hly : 144 ≤ s.ppu.ly := h.vblank.1 hm
  have hlast := h.line
  unfold Machine.endVBlankLine
  split
  · exact h.beginLine (by omega)
  · exact { h with
      line := show s.ppu.ly + 1 < 144 + s.cfg.vblankLines by omega
      vblank := iff_of_true hm (Nat.le_succ_of_le hly) }

theorem endMode (h : s.PpuShaped) (hlines : 1 ≤ s.cfg.vblankLines) : (endMode s).PpuShaped := by
  unfold Machine.endMode
  split
  · next hm => exact h.setMode (by simp [hm]) nofun
  · next hm => exact h.endPixelTransfer hm
  · next hm => exact h.endHBlank hlines hm
  · next hm => exact h.endVBlankLine hm

theorem ppuRun (h : s.PpuShaped) (hlines : 1 ≤ s.cfg.vblankLines) : (ppuRun s).PpuShaped := by
  refine (ppuRun_keeps (P := fun t => 1 ≤ t.cfg.vblankLines ∧ t.PpuShaped) (fun t _ ht => ?_) s ⟨hlines, h⟩).2
  obtain ⟨htlines, hshaped⟩ := ht
  have hcfg : (Machine.endMode (chargeMode t)).cfg = t.cfg := by rw [(endMode_frame _).2.1]; rfl
  exact ⟨hcfg ▸ htlines, (hshaped.setAcc _).endMode htlines⟩

theorem ppuHold (h : s.PpuShaped) : (ppuHold s).PpuShaped :=
  { h with
    line := Nat.lt_add_right _ (by decide : 0 < 144)
    vblank := iff_of_false nofun (by decide : ¬ 144 ≤ 0)
    sprites := Nat.zero_le 10
    sprite_index := ⟨.nil, nofun⟩ }

theorem ppuTick (h : s.PpuShaped) (hlines : 1 ≤ s.cfg.vblankLines) (c : Nat) : (ppuTick c s).PpuShaped := by
  cases hd : bitOf s.io.lcdc 7
  · rw [ppuTick_off c hd]; exact h.ppuHold
  · rw [ppuTick_on c hd]; exact (h.setAcc _).ppuRun hlines

end State.PpuShaped

/-! ## The tick -/

/-- After the PPU's tick the accumulator is below the mode's threshold (R299). -/
theorem ppuTick_settled (c : Nat) (s : State) : (ppuTick c s).ppu.acc < (ppuTick c s).ppu.mode.threshold := by
  cases hd : bitOf s.io.lcdc 7
  · rw [ppuTick_off c hd]; simp [ppuHold, PpuMode.threshold]
  · rw [ppuTick_on c hd]; exact ppuRun_settled _

/-- The PPU's tick makes no request but the V-Blank one, and that with the frame-ready signal (R312). -/
theorem ppuTick_request {c : Nat} {s : State} (hr : s.iflag &&& 0xFE = 0) (hf : s.frameReady = false) :
    (ppuTick c s).iflag &&& 0xFE = 0 ∧ ((ppuTick c s).frameReady = true → bitOf (ppuTick c s).iflag 0 = true) := by
  rcases (ppuTick_only c s).2 with ⟨hi, hfr⟩ | ⟨hi, _⟩
  · rw [hi, hfr, hf]
    exact ⟨hr, nofun⟩
  · rw [hi]
    exact ⟨by rw [BitVec.and_or_distrib_right, hr]; rfl, fun _ => by simp [bitOf]⟩

end Sys2Proof.Machine
end

section
/-!
PROOFS. The invariant, and the statements about the fatal record, the overlay, the flags and `IME`.
-/

namespace Sys2Proof.Machine

/-- A run that has not ended has no fatal record (R349). -/
theorem State.Inv.fatal_none {s : State} (hs : s.Inv) (h : s.stopFlag = false) : s.fatal = none := by
  by_contra hf
  simpa [h] using hs.fatal_ends (Option.isSome_iff_ne_none.2 hf)

/-- Settles O59: the Processor's tick keeps what `Kept` lists and sets no request, and the PPU's tick keeps the shape of
its state and leaves it settled, or held while the display is disabled. -/
theorem stepKeepsInvariant : Obligations.StepKeepsInvariant := by
  unfold Obligations.StepKeepsInvariant
  intro s t hs h
  obtain ⟨hstop, u, hu, hk, rfl⟩ := step_cases h
  have hnone := hs.fatal_none hstop
  have hcfg : u.cfg = s.cfg := by simpa using hk.cfg
  have hlines : 1 ≤ u.cfg.vblankLines := hcfg ▸ hs.lines
  have hshaped : u.PpuShaped := (State.PpuShaped.of_inv hs).congr (by simpa using hk.ppu) hcfg
  have hppu := hshaped.ppuTick hlines u.cycles
  have hiflag : u.iflag &&& 0xFE = 0 := by
    obtain ⟨m, hm⟩ := processorTick_iflag hu
    rw [hm, beginIteration_iflag, BitVec.and_assoc, BitVec.and_comm m, ← BitVec.and_assoc, hs.request]
    exact BitVec.zero_and
  obtain ⟨hrequest, hframe⟩ := ppuTick_request (c := u.cycles) hiflag (by simpa using hk.frameReady)
  have hreport : (endIteration s.fatal (ppuTick u.cycles u)).report = u.fatal := by
    simp [endIteration_report, hnone]
  exact
    { lines := by simpa using hlines
      mem_wf := by simpa using hk.mem_wf (by simpa using hs.mem_wf)
      mem_cells := fun cell hc => (hk.mem_cells cell (by simpa using hc)).elim id fun hc =>
        hs.mem_cells cell (by simpa using hc)
      request := hrequest
      stat_select := by simpa using hk.stat_select (by simpa using hs.stat_select)
      line := hppu.line
      vblank := hppu.vblank
      settled := ppuTick_settled u.cycles u
      sprites := hppu.sprites
      sprite_index := hppu.sprite_index
      frame := hppu.frame
      bg_tiles := hppu.bg_tiles
      obj_tiles := hppu.obj_tiles
      fatal_ends := fun hf => by
        rw [endIteration_fatal, ppuTick_fatal] at hf
        simp [endIteration_stopFlag, hreport, hf]
      reported := fun _ => by simp [hreport]
      frame_request := hframe
      overlay := fun hb => by
        simpa [hcfg] using hs.overlay (by simpa using hk.overlay (by simpa using hb))
      display_off := fun hd => by
        rw [endIteration_ppu, ppuTick_off _ (by simpa using hd)]
        exact ⟨rfl, rfl, rfl, rfl⟩ }

/-- Settles O30: the tick keeps a record, and the end of the iteration reports exactly a record that is new. -/
theorem recordKeptAndStopFlag : Obligations.RecordKeptAndStopFlag := by
  unfold Obligations.RecordKeptAndStopFlag
  intro s t h
  obtain ⟨hstop, u, _, hk, rfl⟩ := step_cases h
  have hrunning : u.stopFlag = false := by simpa [hstop] using hk.stopFlag
  have hreport : (endIteration s.fatal (ppuTick u.cycles u)).report ≠ none ↔ s.fatal = none ∧ u.fatal ≠ none := by
    simp [endIteration_report]
  refine ⟨fun r hr => by simpa using hk.fatal r (by simpa using hr), ?_, by simpa using hreport⟩
  rw [endIteration_stopFlag, Bool.or_eq_true, Bool.or_eq_true, Option.isSome_iff_ne_none, hreport]
  simp [hrunning, or_comm]

/-- Settles O37: no write sets the overlay flag, and no part of a step writes a parameter. -/
theorem overlayIsOneShot : Obligations.OverlayIsOneShot := by
  unfold Obligations.OverlayIsOneShot
  intro s t h
  obtain ⟨_, u, _, hk, rfl⟩ := step_cases h
  refine ⟨fun hs => ?_, by simpa using hk.cfg⟩
  by_contra hb
  have hback := hk.overlay (by simpa using hb)
  simp [hs] at hback

/-- Settles O33, by the case split of `exec_flags`. -/
theorem flagsWrittenOnlyAsListed : Obligations.FlagsWrittenOnlyAsListed := by
  unfold Obligations.FlagsWrittenOnlyAsListed
  exact fun _ _ _ hi hw h => exec_flags hi hw h

/-- Settles O31: the instructions by `exec_interrupts`; in a step only the Processor's tick changes `IME`. -/
theorem writersOfIme : Obligations.WritersOfIme := by
  unfold Obligations.WritersOfIme
  refine ⟨fun i s t h hne => ?_, fun s t h => ?_⟩
  · rcases (exec_interrupts h).ime with ⟨hi, _⟩ | ⟨hi, _⟩ | heq
    · exact .inl hi
    · exact .inr hi
    · exact absurd heq hne
  · obtain ⟨_, u, hu, _, rfl⟩ := step_cases h
    have htick := processorTick_ime hu
    simp only [beginIteration_ime, beginIteration_fatal, beginIteration_pending] at htick
    simp only [endIteration_ime, ppuTick_ime]
    rcases htick with hime | ⟨hf, hi, hime⟩ | ⟨hf, hi, hime⟩ <;> rw [hime]
    · exact ⟨fun h0 h1 => absurd h1 (by simp [h0]), fun h1 h0 => absurd h1 (by simp [h0])⟩
    · exact ⟨fun _ _ => ⟨hi, hf⟩, fun _ => nofun⟩
    · exact ⟨fun _ => nofun, fun _ _ => ⟨hi, hf⟩⟩

end Sys2Proof.Machine
end

section
/-!
PROOFS. Request bits: what the service of a source clears and what the PPU's tick sets, bit by bit.
-/

namespace Sys2Proof.Machine

theorem bitOf_and (v w : Byte) (k : Nat) : bitOf (v &&& w) k = (bitOf v k && bitOf w k) := BitVec.getLsbD_and

theorem bitOf_or (v w : Byte) (k : Nat) : bitOf (v ||| w) k = (bitOf v k || bitOf w k) := BitVec.getLsbD_or

theorem bitOf_not (v : Byte) {k : Nat} (hk : k < 8) : bitOf (~~~v) k = !bitOf v k := by
  rw [bitOf, BitVec.getLsbD_not, decide_eq_true hk, Bool.true_and, bitOf]

theorem bitOf_bitMask {k : Nat} (b : Nat) (hk : k < 8) : bitOf (bitMask b) k = decide (k = b) := by
  have h : bitOf (bitMask b) k = (BitVec.twoPow 8 b).getLsbD k := rfl
  rw [h, BitVec.getLsbD_twoPow, ← Bool.decide_and, decide_eq_decide]
  omega

/-- Clearing bit `b` leaves every other bit as it was. -/
theorem bitOf_clear (v : Byte) {k : Nat} (b : Nat) (hk : k < 8) :
    bitOf (v &&& ~~~(bitMask b)) k = (bitOf v k && decide (k ≠ b)) := by
  rw [bitOf_and, bitOf_not _ hk, bitOf_bitMask b hk, decide_not]

theorem bitOf_firstSource : ∀ p : Byte, p &&& 0x1F ≠ 0 → bitOf (p &&& 0x1F) (firstSource (p &&& 0x1F)) = true := by
  decide

/-- The source that is serviced is enabled (R364). -/
theorem State.ie_firstSource {s : State} (h : s.pending ≠ 0) : bitOf s.ie (firstSource s.pending) = true := by
  have hk : bitOf s.pending (firstSource s.pending) = true := bitOf_firstSource (s.ie &&& s.iflag) h
  generalize firstSource s.pending = k at hk ⊢
  rw [State.pending, bitOf_and, bitOf_and, Bool.and_eq_true, Bool.and_eq_true] at hk
  exact hk.1.1

variable {s : State} {k : Nat}

/-- The PPU's tick clears no request. -/
theorem ppuTick_keeps_request (c : Nat) (h : bitOf s.iflag k = true) : bitOf (ppuTick c s).iflag k = true := by
  rcases (ppuTick_only c s).2 with ⟨hi, _⟩ | ⟨hi, _⟩
  · rw [hi, h]
  · rw [hi, bitOf_or, h, Bool.true_or]

/-- The one request the PPU's tick makes is V-Blank, with the frame-ready signal (R312). -/
theorem ppuTick_new_request {c : Nat} (h : bitOf s.iflag k = false) (hk : bitOf (ppuTick c s).iflag k = true) :
    k = 0 ∧ (ppuTick c s).frameReady = true := by
  rcases (ppuTick_only c s).2 with ⟨hi, _⟩ | ⟨hi, hf⟩
  · simp [hi, h] at hk
  · rw [hi, bitOf_or, h, Bool.false_or] at hk
    exact ⟨by simpa [bitOf] using hk, hf⟩

/-- A tick that clears a request services that source. -/
theorem processorTick_clears_request {u : State} (h : processorTick s = .next u) (hk : k < 8)
    (hset : bitOf s.iflag k = true) (hclear : bitOf u.iflag k = false) :
    Services s u ∧ k = firstSource s.pending := by
  rcases processorTick_interrupts h with ⟨hi, _⟩ | ⟨_, hs | hw⟩
  · simp [hi, hset] at hclear
  · rw [hs.iflag, bitOf_clear _ _ hk, hset] at hclear
    exact ⟨hs, by simpa using hclear⟩
  · simp [hw.iflag, hset] at hclear

/-- Settles O32: a cleared bit is the serviced source's, a new one the PPU's. -/
theorem writersOfRequests : Obligations.WritersOfRequests := by
  unfold Obligations.WritersOfRequests
  refine ⟨fun i s t h => (exec_interrupts h).iflag, fun s t h => ?_⟩
  obtain ⟨_, u, hu, _, rfl⟩ := step_cases h
  refine ⟨fun k hk hset hclear => ?_, fun k _ hclear hset => ?_⟩
  · have huclear : bitOf u.iflag k = false := by
      by_contra huset
      simp [ppuTick_keeps_request u.cycles (by simpa using huset)] at hclear
    obtain ⟨hs, hsource⟩ := processorTick_clears_request hu hk (by simpa using hset) huclear
    refine ⟨by simpa using hs.ime, ?_, by simpa using hs.ime_after, fun j hj hne hjset => ?_⟩
    · simpa [hsource] using State.ie_firstSource hs.pending
    · refine ppuTick_keeps_request u.cycles ?_
      rw [hs.iflag, bitOf_clear _ _ hj, ← hsource, beginIteration_iflag, hjset]
      simpa using hne
  · obtain ⟨m, hm⟩ := processorTick_iflag hu
    exact ppuTick_new_request (by rw [hm, bitOf_and, beginIteration_iflag, hclear, Bool.false_and]) hset

end Sys2Proof.Machine
end

section
/-!
PROOFS. The flag byte, the register file and the reset state.
-/

namespace Sys2Proof.Machine

/-! ## The flag byte -/

section
variable (layout : FlagNibble)

/-- No flag is lost in the flag byte (R28). -/
@[simp] theorem unpackF_packF (f : Flags) : unpackF layout (packF layout f) = f := by
  obtain ⟨z, n, h, c⟩ := f
  cases layout <;> revert z n h c <;> decide

/-- The flag byte keeps the four flag bits of what was written to it (R28). -/
theorem packF_unpackF (b : Byte) :
    packF layout (unpackF layout b) = b &&& (match layout with | .low => 0x0F | .high => 0xF0) := by
  cases layout <;> revert b <;> decide

/-- The weights of the flag bits (R27). -/
theorem packF_toNat (f : Flags) :
    (packF layout f).toNat =
      (match layout with | .low => 1 | .high => 16) *
        (f.z.toNat * 8 + f.n.toNat * 4 + f.h.toNat * 2 + f.c.toNat) := by
  obtain ⟨z, n, h, c⟩ := f
  cases layout <;> revert z n h c <;> decide

end

/-- Settles O55, one lemma per clause. -/
theorem flagByteLayouts : Obligations.FlagByteLayouts := by
  unfold Obligations.FlagByteLayouts
  exact fun layout f b => ⟨unpackF_packF layout f, packF_unpackF layout b, packF_toNat layout f⟩

/-! ## Pairs -/

theorem hi8_toNat (w : Word) : (hi8 w).toNat = w.toNat / 256 := by
  rw [hi8, BitVec.toNat_ofNat]; omega

theorem lo8_toNat (w : Word) : (lo8 w).toNat = w.toNat % 256 := BitVec.toNat_ofNat ..

/-- A word written to a pair reads back (R22). -/
@[simp] theorem State.rr_setRr (s : State) (p : Reg16) (w : Word) : (s.setRr p w).rr p = w := by
  cases p
  case sp => rfl
  all_goals exact pair_halves w

/-- Settles O56: the accessors by their definitions, the pairs by the arithmetic of their halves. -/
theorem pairsAndHalves : Obligations.PairsAndHalves := by
  unfold Obligations.PairsAndHalves
  intro s p w r v
  exact ⟨⟨rfl, rfl, rfl, rfl, rfl, rfl, rfl⟩, rfl, rfl, rfl, rfl, fun x => s.reg_setReg r x v,
    ⟨_, setReg_only s r v, s.setReg_sp r v, s.setReg_pc r v, s.setReg_flags r v⟩, s.rr_setRr p w,
    rfl, rfl, rfl, rfl, pair_toNat _ _, pair_toNat _ _, pair_toNat _ _, rfl,
    ⟨rfl, rfl, rfl, pair_toNat _ _⟩, ⟨rfl, rfl, rfl, rfl⟩, hi8_toNat w, lo8_toNat w⟩

/-! ## Reset -/

/-- The ROM window at reset: the cartridge image's first 0x8000 bytes, and zeros from there on (R52). -/
theorem get_romImage (cfg : Config) (a : Nat) :
    Memory.get (cfg.cartImage.filter fun cell => cell.1 < 0x8000) a =
      if 0x8000 ≤ a then 0x00 else Memory.get cfg.cartImage a := by
  rw [Memory.get_filter _ (fun k => decide (k < 0x8000))]
  by_cases h : 0x8000 ≤ a
  · simp [h, Memory.unlisted]
  · simp [h, Nat.lt_of_not_le h]

theorem get_atReset_none {cfg : Config} (h : cfg.bootImage = none) (a : Nat) :
    Memory.get (Memory.atReset cfg) a = if 0x8000 ≤ a then 0x00 else Memory.get cfg.cartImage a := by
  simp only [Memory.atReset, h]
  exact get_romImage cfg a

/-- The boot image lies over the first 256 bytes (R52). -/
theorem get_atReset_some {cfg : Config} {image : Memory} (h : cfg.bootImage = some image) (a : Nat) :
    Memory.get (Memory.atReset cfg) a =
      if a < 256 then Memory.get image a else if 0x8000 ≤ a then 0x00 else Memory.get cfg.cartImage a := by
  simp only [Memory.atReset, h]
  rw [Memory.get_copy, Memory.length_slice, get_romImage]
  by_cases ha : a < 256
  · rw [if_pos (by omega), if_pos ha, Memory.getD_slice _ _ _ _ (by omega), Nat.zero_add, Nat.sub_zero]
  · rw [if_neg (by omega), if_neg ha]

theorem State.read8_cell (s : State) {a : Word} (h : targetOf a = .cell) : s.read8 a = Memory.get s.mem a.toNat := by
  rw [State.read8, h]

/-- Every pixel of the framebuffer is 0 at reset (R54). -/
theorem Ppu.atReset_fb {y x : Nat} (hy : y < 144) (hx : x < 160) :
    (Ppu.atReset.fb[y]?.bind fun row => row[x]?) = some 0 := by
  have hfb : Ppu.atReset.fb = List.replicate 144 (List.replicate 160 0) := rfl
  rw [hfb, List.getElem?_replicate, if_pos hy, Option.bind_some, List.getElem?_replicate, if_pos hx]

/-- Settles O57: the values by their definitions, the I/O registers by the configuration, stored bytes by the images. -/
theorem resetValues : Obligations.ResetValues := by
  unfold Obligations.ResetValues
  intro cfg
  refine ⟨⟨rfl, rfl, rfl, rfl, rfl, rfl, rfl, rfl, rfl, rfl⟩, ⟨rfl, rfl, rfl, rfl, rfl, rfl, rfl, rfl⟩, ?_,
    ⟨rfl, rfl, rfl, rfl, fun y x hy hx => Ppu.atReset_fb hy hx, rfl, rfl⟩, fun a ha => ?_⟩
  · cases himage : cfg.bootImage <;> simp [State.resetWith, himage, IoRegs.zero, IoRegs.postBoot]
  · have hmem : (State.resetWith cfg).mem = Memory.atReset cfg := rfl
    rw [State.read8_cell _ ha, hmem]
    cases himage : cfg.bootImage with
    | none => exact get_atReset_none himage a.toNat
    | some image =>
      rw [get_atReset_some himage]
      by_cases hlow : a.toNat < 256
      · simp [hlow, show ¬ 0x8000 ≤ a.toNat by omega]
      · simp [hlow]

end Sys2Proof.Machine
end

section
/-!
PROOFS. The address map, and read after write for what stands behind an address: a stored byte, a sentinel window or a
register.
-/

namespace Sys2Proof.Machine

/-! ## Regions and targets -/

/-- Settles O47: the rows of R66 are the branches of `regionOf`, each with the bounds its guards leave. -/
theorem addressMap : Obligations.AddressMap := by
  unfold Obligations.AddressMap
  intro a
  have ha : a.toNat < 0x10000 := a.isLt
  unfold regionOf
  dsimp only
  split_ifs
  all_goals
    simp only [false_iff, true_iff]
    omega

theorem targetOf_sentinel_of_region {a : Word} (h : regionOf a = .echo ∨ regionOf a = .unusable) :
    targetOf a = .sentinel := by
  rcases h with h | h <;> simp only [targetOf, h]

/-- An address of the I/O window is stored unless R76 assigns it (R77). -/
theorem targetOf_cell_of_unassigned {a : Word} (h : regionOf a = .io) (hr : ∀ r : IoReg, r ≠ .ie → a ≠ r.addr) :
    targetOf a = .cell := by
  cases ht : targetOf a with
  | cell => rfl
  | sentinel => simp only [targetOf, h] at ht; split at ht <;> cases ht
  | reg r =>
    obtain rfl := eq_addr_of_target ht
    have hie : r ≠ .ie := by
      rintro rfl
      exact absurd h (by decide)
    exact absurd rfl (hr r hie)

/-! ## Reading and writing a register at its address -/

section
variable (s : State) (r : IoReg) (v : Byte)

theorem State.read8_addr : s.read8 r.addr = s.readReg r := by rw [State.read8, targetOf_addr]

theorem State.write8_addr : s.write8 r.addr v = s.writeReg r v := State.write8_reg s r.addr v (targetOf_addr r)

theorem State.read8_sentinel {a : Word} (h : targetOf a = .sentinel) : s.read8 a = 0xFF := by rw [State.read8, h]

/-- The registers that hold the whole byte written, and do nothing else with it. -/
def IoReg.holdsByte : IoReg → Bool
  | .joyp | .iflag | .stat | .ly | .dma | .boot => false
  | _ => true

theorem State.write8_holdsByte (h : r.holdsByte = true) :
    (s.write8 r.addr v).read8 r.addr = v ∧ (s.write8 r.addr v).mem = s.mem ∧ (s.write8 r.addr v).ppu = s.ppu := by
  rw [State.write8_addr, State.read8_addr]
  cases r
  case joyp | iflag | stat | ly | dma | boot => cases h
  all_goals exact ⟨rfl, rfl, rfl⟩

end

/-- Settles O49: the registers of the list hold the byte written; the others are one equation of `writeReg` or
`readReg` each. -/
theorem registersReadAndWrite : Obligations.RegistersReadAndWrite := by
  unfold Obligations.RegistersReadAndWrite
  refine fun s v => ⟨fun a ha => ?_, s.write8_addr .iflag v, s.read8_addr .iflag, s.write8_addr .ly v, ?_,
    s.write8_addr .ie v, s.write8_addr .lcdc v⟩
  · have hreg : ∃ r : IoReg, a = r.addr ∧ r.holdsByte = true := by
      simp only [List.mem_cons, List.not_mem_nil, or_false] at ha
      rcases ha with h | h | h | h | h | h | h | h | h | h
      exacts [⟨.lcdc, h, rfl⟩, ⟨.scy, h, rfl⟩, ⟨.scx, h, rfl⟩, ⟨.lyc, h, rfl⟩, ⟨.bgp, h, rfl⟩, ⟨.obp0, h, rfl⟩,
        ⟨.obp1, h, rfl⟩, ⟨.wy, h, rfl⟩, ⟨.wx, h, rfl⟩, ⟨.ie, h, rfl⟩]
    obtain ⟨r, rfl, hr⟩ := hreg
    exact s.write8_holdsByte r v hr
  · have hly : s.read8 0xFF44 = BitVec.ofNat 8 s.ppu.ly := s.read8_addr .ly
    rw [hly, BitVec.toNat_ofNat]

/-! ## Stored bytes and sentinel windows -/

/-- Settles O48: a normal region and an unassigned I/O address are stored bytes, the other two regions sentinels. -/
theorem storageAndSentinels : Obligations.StorageAndSentinels := by
  unfold Obligations.StorageAndSentinels
  refine fun s a v => ⟨fun h => ?_, fun h => ?_⟩
  · have hcell : targetOf a = .cell := by
      rcases h with h | ⟨hio, hlist⟩
      · exact targetOf_cell_of_region h
      · refine targetOf_cell_of_unassigned hio fun r hie => ?_
        rintro rfl
        refine hlist ?_
        cases r
        case ie => exact absurd rfl hie
        all_goals decide
    exact ⟨by rw [s.read8_write8_cell a v hcell, if_pos rfl],
      fun x hx => by rw [s.read8_write8_cell a v hcell, if_neg hx]⟩
  · have hsentinel := targetOf_sentinel_of_region h
    exact ⟨s.read8_sentinel hsentinel, s.write8_sentinel a v hsentinel⟩

theorem word_ne_succ (a : Word) : a ≠ a + 1 := by bv_omega

/-- A word stored in two stored bytes reads back byte by byte, and every other address reads as before (R65, R67). -/
theorem State.read8_write16_cell (s : State) {a : Word} (w : Word) (h0 : targetOf a = .cell)
    (h1 : targetOf (a + 1) = .cell) (x : Word) :
    (s.write16 a w).read8 x = if x = a + 1 then hi8 w else if x = a then lo8 w else s.read8 x := by
  rw [State.write16, State.read8_write8_cell _ _ _ h1, State.read8_write8_cell _ _ _ h0]

/-- Settles O53: the two byte accesses are the definitions; what two stored bytes read is `read8_write16_cell`. -/
theorem wordAccesses : Obligations.WordAccesses := by
  unfold Obligations.WordAccesses
  refine fun s a w => ⟨rfl, rfl, fun h0 h1 => ?_⟩
  have hread := s.read8_write16_cell w h0 h1
  have hlow : (s.write16 a w).read8 a = lo8 w := by rw [hread, if_neg (word_ne_succ a), if_pos rfl]
  have hhigh : (s.write16 a w).read8 (a + 1) = hi8 w := by rw [hread, if_pos rfl]
  refine ⟨hlow, hhigh, ?_, fun x hx hx' => by rw [hread, if_neg hx', if_neg hx]⟩
  rw [State.read16, hlow, hhigh, pair_halves]

end Sys2Proof.Machine
end

section
/-!
PROOFS. The two registers that are views: what `JOYP` and `STAT` read, bit by bit.
-/

namespace Sys2Proof.Machine

/-- A flag put at bit `n` of a byte. -/
theorem bitOf_bool8_shift (b : Bool) (n : Nat) {k : Nat} (hk : k < 8) :
    bitOf (bool8 b <<< n) k = (b && decide (k = n)) := by
  cases b
  · simp [bool8, bitOf]
  · exact (bitOf_bitMask n hk).trans (Bool.true_and _).symm

theorem bitOf_bool8 (b : Bool) {k : Nat} (hk : k < 8) : bitOf (bool8 b) k = (b && decide (k = 0)) := by
  have h := bitOf_bool8_shift b 0 hk
  rwa [BitVec.shiftLeft_zero] at h

/-- The signals of the direction group by bit: right, left, up, down (R82). -/
theorem HostInput.bitOf_directions (i : HostInput) {k : Nat} (hk : k < 8) :
    bitOf i.directions k =
      ((i.right && decide (k = 0)) || (i.left && decide (k = 1)) || (i.up && decide (k = 2)) ||
        (i.down && decide (k = 3))) := by
  simp only [HostInput.directions, bitOf_or, bitOf_bool8_shift _ _ hk, bitOf_bool8 _ hk]

/-- The signals of the button group by bit: a, b, select, start (R82). -/
theorem HostInput.bitOf_buttons (i : HostInput) {k : Nat} (hk : k < 8) :
    bitOf i.buttons k =
      ((i.a && decide (k = 0)) || (i.b && decide (k = 1)) || (i.select && decide (k = 2)) ||
        (i.start && decide (k = 3))) := by
  simp only [HostInput.buttons, bitOf_or, bitOf_bool8_shift _ _ hk, bitOf_bool8 _ hk]

/-- A group that is not selected shows no signal (R82). -/
theorem bitOf_unselected (c : Bool) (v : Byte) (k : Nat) : bitOf (if c then 0 else v) k = (!c && bitOf v k) := by
  cases c
  · simp
  · exact BitVec.getLsbD_zero

section
variable (s : State)

/-- The bits of `JOYP`: two that are set, the select bits, and the inverted signals of the selected groups (R82). -/
theorem State.bitOf_joyp {k : Nat} (hk : k < 8) :
    bitOf s.joyp k =
      (decide (6 ≤ k) || (s.io.joySelBtn && decide (k = 5)) || (s.io.joySelDir && decide (k = 4)) ||
        (decide (k ≤ 3) && !((!s.io.joySelDir && bitOf s.input.directions k) ||
          (!s.io.joySelBtn && bitOf s.input.buttons k)))) := by
  have hset : bitOf 0xC0 k = decide (6 ≤ k) := (by decide : ∀ k < 8, bitOf 0xC0 k = decide (6 ≤ k)) k hk
  have hlow : bitOf 0x0F k = decide (k ≤ 3) := (by decide : ∀ k < 8, bitOf 0x0F k = decide (k ≤ 3)) k hk
  simp only [State.joyp, bitOf_or, bitOf_and, bitOf_not _ hk, bitOf_bool8_shift _ _ hk, bitOf_unselected,
    Nat.cast_ofNat, hset, hlow]

/-- The mode codes take two bits (R292). -/
theorem PpuMode.bitOf_code (m : PpuMode) : ∀ k < 8, 2 ≤ k → bitOf m.code k = false := by cases m <;> decide

/-- The bits of `STAT`: the stored select bits, the compare flag and the mode code (R292). -/
theorem State.bitOf_stat {k : Nat} (hk : k < 8) :
    bitOf s.stat k =
      ((bitOf s.io.statSel k && decide (3 ≤ k ∧ k ≤ 6)) || (decide (s.ppu.ly = s.io.lyc.toNat) && decide (k = 2)) ||
        bitOf s.ppu.mode.code k) := by
  have hmask : bitOf 0x78 k = decide (3 ≤ k ∧ k ≤ 6) :=
    (by decide : ∀ k < 8, bitOf 0x78 k = decide (3 ≤ k ∧ k ≤ 6)) k hk
  have hcompare : (if s.ppu.ly = s.io.lyc.toNat then 4 else 0 : Byte) =
      bool8 (decide (s.ppu.ly = s.io.lyc.toNat)) <<< 2 := by
    split_ifs with h <;> simp [bool8, h]
  rw [State.stat, hcompare, bitOf_or, bitOf_or, bitOf_and, bitOf_bool8_shift _ _ hk, hmask]

theorem toNat_or_mod_four (v w : Byte) : (v ||| w).toNat % 4 = v.toNat % 4 ||| w.toNat % 4 := by
  rw [BitVec.toNat_or]; exact Nat.or_mod_two_pow (n := 2)

/-- The low two bits of `STAT` are the mode code (R292). -/
theorem State.stat_toNat_mod_four : s.stat.toNat % 4 = s.ppu.mode.code.toNat := by
  have hselect : (s.io.statSel &&& 0x78).toNat % 4 = 0 := by
    rw [BitVec.toNat_and]; exact (Nat.and_mod_two_pow (n := 2)).trans (Nat.and_zero _)
  have hcompare : (if s.ppu.ly = s.io.lyc.toNat then 4 else 0 : Byte).toNat % 4 = 0 := by split_ifs <;> rfl
  have hcode : s.ppu.mode.code.toNat % 4 = s.ppu.mode.code.toNat := by cases s.ppu.mode <;> rfl
  rw [State.stat, toNat_or_mod_four, toNat_or_mod_four, hselect, hcompare, hcode, Nat.zero_or, Nat.zero_or]

end

/-- Settles O50: each clause is a bit of `bitOf_joyp` or `bitOf_stat`. -/
theorem joypadAndStatus : Obligations.JoypadAndStatus := by
  unfold Obligations.JoypadAndStatus
  intro s v
  have hjoyp : s.read8 0xFF00 = s.joyp := s.read8_addr .joyp
  have hstat : s.read8 0xFF41 = s.stat := s.read8_addr .stat
  simp only [hjoyp, hstat]
  refine ⟨?_, s.write8_addr .joyp v, ⟨?_, fun k h3 h6 => ?_, ?_, ?_⟩, s.write8_addr .stat v⟩
  · simp [State.bitOf_joyp, HostInput.bitOf_directions, HostInput.bitOf_buttons]
  · rw [State.bitOf_stat s (by decide), s.ppu.mode.bitOf_code 7 (by decide) (by decide)]
    simp
  · rw [State.bitOf_stat s (by omega), s.ppu.mode.bitOf_code k (by omega) (by omega)]
    simp [h3, h6, show k ≠ 2 by omega]
  · rw [State.bitOf_stat s (by decide), s.ppu.mode.bitOf_code 2 (by decide) (by decide)]
    simp
  · rw [s.stat_toNat_mod_four]
    cases s.ppu.mode <;> rfl

end Sys2Proof.Machine
end

section
/-!
PROOFS. The two writes with an effect beyond the byte: the copy to OAM and the removal of the boot overlay.
-/

namespace Sys2Proof.Machine

section
variable (s : State)

/-! ## What a read sees of each part of the state -/

/-- A read sees memory at stored bytes alone. -/
theorem State.read8_setMem (m : Memory) (x : Word) :
    ({ s with mem := m } : State).read8 x = if targetOf x = .cell then Memory.get m x.toNat else s.read8 x := by
  cases hx : targetOf x with
  | cell => rw [if_pos rfl]; exact State.read8_cell _ hx
  | sentinel => simp only [State.read8, hx, reduceCtorEq, if_false]
  | reg r => simp only [State.read8, hx, reduceCtorEq, if_false]; rfl

/-- After a bulk copy to stored bytes, those with `P`, a read sees the copied bytes there and every other address as
before (R73). -/
theorem State.read8_copy {base : Nat} {bytes : List Byte} {x : Word} {P : Prop} [Decidable P]
    (hrange : P ↔ base ≤ x.toNat ∧ x.toNat < base + bytes.length) (hcells : P → targetOf x = .cell) :
    ({ s with mem := Memory.copy s.mem base bytes } : State).read8 x =
      if P then bytes.getD (x.toNat - base) Memory.unlisted else s.read8 x := by
  simp only [State.read8_setMem, Memory.get_copy, ← hrange]
  split_ifs with hcell hin hin
  · rfl
  · exact (s.read8_cell hcell).symm
  · exact absurd (hcells hin) hcell
  · rfl

/-- A state that differs in one register behind an address reads differently at that address alone. -/
theorem State.read8_congr_except {t : State} (r : IoReg) (hmem : t.mem = s.mem)
    (hreg : ∀ q, q ≠ r → t.readReg q = s.readReg q) {x : Word} (hx : x ≠ r.addr) : t.read8 x = s.read8 x := by
  cases ht : targetOf x with
  | cell | sentinel => simp only [State.read8, ht, hmem]
  | reg q =>
    obtain rfl := eq_addr_of_target ht
    rw [State.read8_addr, State.read8_addr]
    exact hreg q fun h => hx (h ▸ rfl)

/-- `DMAreg` is read at its own address alone (R83). -/
theorem State.read8_setDma (v : Byte) (x : Word) :
    ({ s with io.dma := v } : State).read8 x = if x = 0xFF46 then v else s.read8 x := by
  split_ifs with hx
  · subst hx; exact State.read8_addr _ .dma
  · refine s.read8_congr_except .dma (by rfl) (fun q hq => ?_) hx
    cases q
    case dma => exact absurd rfl hq
    all_goals rfl

/-- The boot-disable byte is read at its own address alone (R81). -/
theorem State.read8_setBoot (v : Byte) (x : Word) :
    ({ s with io.boot := v } : State).read8 x = if x = 0xFF50 then v else s.read8 x := by
  split_ifs with hx
  · subst hx; exact State.read8_addr _ .boot
  · refine s.read8_congr_except .boot (by rfl) (fun q hq => ?_) hx
    cases q
    case boot => exact absurd rfl hq
    all_goals rfl

/-! ## The copy to OAM -/

/-- After the copy OAM byte `i` is what the bus read at the page of `v`, and every address outside OAM reads as before
(R83). -/
theorem State.read8_oamCopy (v : Byte) (x : Word) :
    (s.oamCopy v).read8 x =
      if regionOf x = .oam then s.read8 (pair v 0 + BitVec.ofNat 16 (x.toNat - 0xFE00)) else s.read8 x := by
  have hrange : regionOf x = .oam ↔ 0xFE00 ≤ x.toNat ∧ x.toNat < 0xFE00 + 160 := by
    rw [regionOf_oam]; omega
  unfold State.oamCopy
  dsimp only
  rw [State.read8_copy s (P := regionOf x = .oam) (by rw [hrange, List.length_map, List.length_range])
    fun hoam => targetOf_cell_of_region (by simp [hoam])]
  split_ifs with hoam
  · obtain ⟨hlow, hhigh⟩ := hrange.1 hoam
    rw [List.getD_eq_getElem _ _ (by simp; omega), List.getElem_map, List.getElem_range]
  · rfl

/-- The address of byte `i` of a page (R83). -/
theorem pair_zero_add (v : Byte) (i : Nat) : pair v 0 + BitVec.ofNat 16 i = BitVec.ofNat 16 (v.toNat * 256 + i) := by
  simp [pair, BitVec.ofNat_add]

/-! ## The removal of the overlay -/

/-- The first removal brings back the cartridge's first 256 bytes and no read changes but theirs; a later one does
nothing (R81). -/
theorem State.read8_removeOverlay (x : Word) :
    s.removeOverlay.read8 x =
      if s.bootActive = true ∧ x.toNat < 256 then Memory.get s.cfg.cartImage x.toNat else s.read8 x := by
  cases hb : s.bootActive with
  | false => simp [State.removeOverlay, hb]
  | true =>
    have hread : s.removeOverlay.read8 x =
        ({ s with mem := Memory.copy s.mem 0 (Memory.slice s.cfg.cartImage 0 256) } : State).read8 x := by
      rw [State.removeOverlay, if_pos hb]
      exact State.read8_congr _ rfl rfl rfl rfl rfl rfl
    have hrom : x.toNat < 256 → regionOf x = .rom := fun hlow => regionOf_rom.2 (by omega)
    rw [hread, State.read8_copy s (P := x.toNat < 256) (by rw [Memory.length_slice]; omega)
      fun hlow => targetOf_cell_of_region (by simp [hrom hlow])]
    simp only [true_and]
    split_ifs with hlow
    · rw [Nat.sub_zero, Memory.getD_slice _ _ _ _ hlow, Nat.zero_add]
    · rfl

theorem State.removeOverlay_bootActive : s.removeOverlay.bootActive = false := by
  cases hb : s.bootActive <;> simp [State.removeOverlay, hb]

end

/-! ## The two writes -/

/-- Settles O51: a write to 0xFF46 sets `DMAreg`, then copies to OAM what the bus reads with the new byte in place. -/
theorem oamCopyResult : Obligations.OamCopyResult := by
  unfold Obligations.OamCopyResult
  intro s v
  have hwrite : s.write8 0xFF46 v = ({ s with io.dma := v } : State).oamCopy v := s.write8_addr .dma v
  simp only [hwrite, State.read8_oamCopy, State.read8_setDma]
  refine ⟨rfl, fun i hi => ?_, fun x hx hoam => by rw [if_neg hoam, if_neg hx]⟩
  have hoffset : (0xFE00 + BitVec.ofNat 16 i : Word).toNat = 0xFE00 + i := by
    rw [BitVec.toNat_add, BitVec.toNat_ofNat]; simp; omega
  rw [if_pos (regionOf_oam.2 (by omega)), hoffset, Nat.add_sub_cancel_left, pair_zero_add]

/-- Settles O52: a write to 0xFF50 stores the byte, then removes the overlay. -/
theorem overlayRemoval : Obligations.OverlayRemoval := by
  unfold Obligations.OverlayRemoval
  intro s v
  have hwrite : s.write8 0xFF50 v = ({ s with io.boot := v } : State).removeOverlay := s.write8_addr .boot v
  simp only [hwrite, State.read8_removeOverlay, State.read8_setBoot]
  refine ⟨?_, State.removeOverlay_bootActive _, fun hb i hi => ?_, fun hb => ?_, fun x hx hlow => ?_⟩
  · simp
  · have hn : (BitVec.ofNat 16 i).toNat = i := by rw [BitVec.toNat_ofNat]; omega
    rw [hn, if_pos ⟨hb, hi⟩]
  · simp [State.removeOverlay, hb]
  · rw [if_neg (fun h => by omega), if_neg hx]

end Sys2Proof.Machine
end

section
/-!
PROOFS. What an instruction leaves of memory: the forms that store nothing leave all of it, the others all but the
bytes they store.
-/

namespace Sys2Proof.Machine

section
variable {i : Instr} {s t u : State} {a : Word} {n : Nat}

/-! ## The forms that store nothing -/

/-- Memory and every register behind an address that an instruction can write are as before. -/
structure LeavesMemory (s t : State) : Prop where
  mem : t.mem = s.mem
  io : t.io = s.io
  ie : t.ie = s.ie
  bootActive : t.bootActive = s.bootActive

theorem LeavesMemory.refl (s : State) : LeavesMemory s s := ⟨rfl, rfl, rfl, rfl⟩

section
variable (s : State)

@[simp] theorem State.aluA_mem (op : AluOp) (v : Byte) : (s.aluA op v).mem = s.mem := rfl
@[simp] theorem State.aluA_io (op : AluOp) (v : Byte) : (s.aluA op v).io = s.io := rfl
@[simp] theorem State.aluA_ie (op : AluOp) (v : Byte) : (s.aluA op v).ie = s.ie := rfl
@[simp] theorem State.aluA_bootActive (op : AluOp) (v : Byte) : (s.aluA op v).bootActive = s.bootActive := rfl

theorem raiseFatal_leavesMemory (kind : FatalKind) (address : Word) (op : Byte) :
    LeavesMemory s (raiseFatal kind address op s) := by
  unfold raiseFatal
  split
  · exact ⟨rfl, rfl, rfl, rfl⟩
  · exact LeavesMemory.refl s

end

/-- A conditional call that is not taken stores nothing. -/
theorem callIf_leavesMemory {cc : Cond} {nn : Word} {stack : Word × Nat}
    (hstores : (if s.cond cc then some stack else none) = none) (h : callIf cc nn s = .next t) : LeavesMemory s t := by
  unfold callIf at h
  split at hstores
  · cases hstores
  · next hc =>
    rw [if_neg hc] at h
    cases h
    exact ⟨rfl, rfl, rfl, rfl⟩

/-- A form that stores nothing builds its next state from operations on the Processor's own state. -/
theorem exec_leavesMemory (hi : i.wellFormed = true) (hstores : storesTo s i = none) (h : exec i s = .next t) :
    LeavesMemory s t := by
  cases i
  case callNzNn | callZNn | callNcNn | callCNn => exact callIf_leavesMemory hstores h
  all_goals cases hstores
  case prefixCb => cases hi
  case illegal =>
    obtain ⟨hmem, hio, hie, hboot⟩ := raiseFatal_leavesMemory s .unknownOpcode (s.regs.pc - 1) _
    cases h
    exact ⟨hmem, hio, hie, hboot⟩
  case popBc | popDe | popHl | popAf | reti => cases h; exact ⟨rfl, rfl, rfl, rfl⟩
  case jpNzNn | jpZNn | jpNcNn | jpCNn | jrNzDisp | jrZDisp | jrNcDisp | jrCDisp | retNz | retZ | retNc | retC =>
    exact next_of_ite h ⟨rfl, rfl, rfl, rfl⟩ ⟨rfl, rfl, rfl, rfl⟩
  all_goals
    obtain rfl := finish_eq_next h
    exact ⟨by simp, by simp, by simp, by simp⟩

/-! ## The storing forms -/

/-- Between `s` and `t` no address outside `stored` reads differently, but for the compare flag of `STAT` where `LYC` is
stored (R292), and the overlay stays as it is. -/
structure LeavesOthers (stored : Word → Prop) (s t : State) : Prop where
  read : ∀ x, ¬ stored x → (x = 0xFF41 → ¬ stored 0xFF45) → t.read8 x = s.read8 x
  stat : ¬ stored 0xFF41 → ∀ b, b ≠ 2 → bitOf (t.read8 0xFF41) b = bitOf (s.read8 0xFF41) b
  bootActive : t.bootActive = s.bootActive

theorem LeavesOthers.trans {stored : Word → Prop} (h : LeavesOthers stored s t) (k : LeavesOthers stored t u) :
    LeavesOthers stored s u where
  read := fun x hx hs => (k.read x hx hs).trans (h.read x hx hs)
  stat := fun hx b hb => (k.stat hx b hb).trans (h.stat hx b hb)
  bootActive := k.bootActive.trans h.bootActive

/-- Registers and cycles stand behind no address. -/
theorem LeavesOthers.of_regs (stored : Word → Prop) (s : State) (r : Regs) (c : Nat) :
    LeavesOthers stored s { s with regs := r, cycles := c } where
  read := fun _ _ _ => State.read8_congr _ rfl rfl rfl rfl rfl rfl
  stat := fun _ b _ => congrArg (bitOf · b) (State.read8_congr _ rfl rfl rfl rfl rfl rfl)
  bootActive := rfl

/-- A bus write to one of the stored bytes, none of them `DMA` or `BOOT`. -/
theorem LeavesOthers.write8 {stored : Word → Prop} (hdma : ¬ stored 0xFF46) (hboot : ¬ stored 0xFF50) (s : State)
    (ha : stored a) (v : Byte) : LeavesOthers stored s (s.write8 a v) := by
  have hd : a ≠ 0xFF46 := fun h => hdma (h ▸ ha)
  have hb : a ≠ 0xFF50 := fun h => hboot (h ▸ ha)
  exact
    { read := fun x hx hs =>
        s.read8_write8_plain a v hd hb x (fun h => hx (h ▸ ha)) fun hstat hlyc => hs hstat (hlyc ▸ ha)
      stat := fun hx => s.read8_stat_write8_plain a v hd hb fun h => hx (h ▸ ha)
      bootActive := s.write8_bootActive a v hb }

/-- The bytes an instruction stores, as `storesTo` gives them. -/
def storedBytes (a : Word) (n : Nat) (x : Word) : Prop := ∃ k, k < n ∧ x = a + BitVec.ofNat 16 k

/-- A storing form leaves every other address: its state is reached by one or two bus writes at the stored bytes. -/
theorem StoredAt.leavesOthers (h : StoredAt s a n t) (hdma : ¬ storedBytes a n 0xFF46)
    (hboot : ¬ storedBytes a n 0xFF50) : LeavesOthers (storedBytes a n) s t := by
  have hfirst : 0 < n → storedBytes a n a := fun hn => ⟨0, hn, (BitVec.add_zero a).symm⟩
  rcases h with ⟨rfl, v, r, c, rfl⟩ | ⟨rfl, w, r, r', c, rfl⟩
  · exact (LeavesOthers.write8 hdma hboot s (hfirst Nat.one_pos) v).trans (.of_regs _ _ r c)
  · have hsecond : storedBytes a 2 (a + 1) := ⟨1, Nat.one_lt_two, rfl⟩
    exact (LeavesOthers.of_regs _ s r s.cycles).trans
      (((LeavesOthers.write8 hdma hboot _ (hfirst Nat.two_pos) (lo8 w)).trans
        (LeavesOthers.write8 hdma hboot _ hsecond (hi8 w))).trans (.of_regs _ _ r' c))

/-- A bus write changes no state of the PPU, the interrupts or the run. -/
theorem StoredAt.leavesControl (h : StoredAt s a n t) :
    t.ppu = s.ppu ∧ t.iflag = s.iflag ∧ t.ime = s.ime ∧ t.fatal = s.fatal ∧ t.runState = s.runState := by
  rcases h with ⟨_, v, r, c, rfl⟩ | ⟨_, w, r, r', c, rfl⟩ <;> simp

end

/-! ## The two frames -/

/-- Settles O35: `exec_leavesMemory`, and no instruction changes what else a read depends on. -/
theorem otherFormsLeaveMemory : Obligations.OtherFormsLeaveMemory := by
  unfold Obligations.OtherFormsLeaveMemory
  intro i s t hi hstores h
  obtain ⟨hmem, hio, hie, hboot⟩ := exec_leavesMemory hi hstores h
  obtain ⟨u, hu, hkept⟩ := exec_runs i s
  obtain rfl := Host.Outcome.next.inj (hu.symm.trans h)
  have hiflag := (exec_interrupts h).iflag
  exact ⟨fun x => State.read8_congr x hmem hio hkept.ppu hiflag hie hkept.input, hmem, hio, hie, hboot⟩

/-- Settles O34: a storing form is a bus write at the address `storesTo` gives, and the write is plain. -/
theorem storesLeaveOtherBytes : Obligations.StoresLeaveOtherBytes := by
  unfold Obligations.StoresLeaveOtherBytes
  intro i s t a n _ hstores h stored hdma hboot
  obtain ⟨u, hu, hat⟩ := exec_stores i hstores
  obtain rfl := Host.Outcome.next.inj (hu.symm.trans h)
  obtain ⟨hread, hstat, hactive⟩ := hat.leavesOthers hdma hboot
  exact ⟨hread, hstat, hactive, hat.leavesControl⟩

end Sys2Proof.Machine
end

section
/-!
PROOFS. The decoder and the encoder are inverse to each other (R100 to R102, R116 to R121): what the decoder does with
each kind of entry, then one lemma for each direction, from which the other statements about decoding follow.
-/

namespace Sys2Proof

section
variable {op : Byte} {tail rest : List Byte} {i : Instr}

/-! ## The decoder, by the entry of the opcode byte -/

theorem decode_op (h : primary op = .op i) : decode (op :: rest) = .ok (i, rest) := by
  simp only [decode, h]

theorem decode_opByte {f : Byte → Instr} (h : primary op = .opByte f) (n : Byte) :
    decode (op :: n :: rest) = .ok (f n, rest) := by
  simp only [decode, h]

theorem decode_opWord {f : Word → Instr} (h : primary op = .opWord f) (lo hi : Byte) :
    decode (op :: lo :: hi :: rest) = .ok (f (Machine.pair hi lo), rest) := by
  simp only [decode, h]

theorem decode_page (h : primary op = .page) (op2 : Byte) : decode (op :: op2 :: rest) = .ok (secondary op2, rest) := by
  simp only [decode, h]

/-- A word operand is stored low byte first (R102). -/
theorem decode_opWord_halves {f : Word → Instr} (h : primary op = .opWord f) (nn : Word) :
    decode (op :: Machine.lo8 nn :: Machine.hi8 nn :: rest) = .ok (f nn, rest) := by
  rw [decode_opWord h, Machine.pair_halves]

/-- Each byte of R118 selects the illegal instruction that carries it. -/
theorem primary_illegal : ∀ op ∈ illegalBytes, primary op = .op (.illegal op) := by
  simp only [illegalBytes, List.forall_mem_cons]
  exact ⟨rfl, rfl, rfl, rfl, rfl, rfl, rfl, rfl, rfl, rfl, rfl, nofun⟩

theorem decode_three (op b1 b2 : Byte) : ∃ i rest, decode [op, b1, b2] = .ok (i, rest) := by
  cases h : primary op with
  | op i => exact ⟨_, _, decode_op h⟩
  | opByte f => exact ⟨_, _, decode_opByte h b1⟩
  | opWord f => exact ⟨_, _, decode_opWord h b1 b2⟩
  | page => exact ⟨_, _, decode_page h b1⟩

/-! ## From bytes to an instruction and back -/

/-- The number of bytes of the instructions an entry makes (R101, R102). -/
def Entry.length : Entry → Nat
  | .op _ => 1
  | .opByte _ => 2
  | .opWord _ => 3
  | .page => 2

theorem Entry.length_mem (e : Entry) : e.length ∈ [1, 2, 3] := by
  cases e <;> simp [Entry.length]

/-- What decodes is well-formed and begins with the bytes of its encoding, as many as the entry of the opcode byte
says. A list that ends too early does not decode. -/
theorem decode_sound (h : decode (op :: tail) = .ok (i, rest)) :
    i.wellFormed = true ∧ op :: tail = encode i ++ rest ∧ (encode i).length = (primary op).length := by
  rcases primary_cases op with ⟨j, hp, hwf, henc⟩ | ⟨f, hp, hf⟩ | ⟨f, hp, hf⟩ | ⟨hp, hop⟩
  · cases (decode_op hp).symm.trans h
    simp [hwf, henc, hp, Entry.length]
  · match tail with
    | [] => simp [decode, hp] at h
    | n :: tail =>
      cases (decode_opByte hp n).symm.trans h
      simp [hf n, hp, Entry.length]
  · match tail with
    | [] | [_] => simp [decode, hp] at h
    | lo :: hi :: tail =>
      cases (decode_opWord hp lo hi).symm.trans h
      simp [hf (Machine.pair hi lo), hp, Entry.length]
  · match tail with
    | [] => simp [decode, hp] at h
    | op2 :: tail =>
      cases (decode_page hp op2).symm.trans h
      simp [secondary_sound op2, hp, ← hop, Entry.length]

/-! ## From an instruction to bytes and back -/

set_option maxRecDepth 4000 in
/-- The table entry of the first byte gives back every constructor: by evaluation where the bytes are the opcode and a
byte operand, by `decode_opWord_halves` where a word operand was split. -/
theorem decode_encode (hi : i.wellFormed = true) : decode (encode i ++ rest) = .ok (i, rest) := by
  cases i
  case prefixCb => cases hi
  case illegal op => exact decode_op (primary_illegal op (List.contains_iff_mem.1 hi))
  case ldBcNn | ldDeNn | ldHlNn | ldSpNn | ldAtNnSp | ldAtNnA | ldAAtNn | jpNn | jpNzNn | jpZNn | jpNcNn | jpCNn
      | callNn | callNzNn | callZNn | callNcNn | callCNn =>
    exact decode_opWord_halves rfl _
  all_goals rfl

/-- A word of the opcode table decodes to the instruction whose encoding its bytes begin with. -/
theorem decodeTableWord_of_prefix {nbits w : Nat} (h : encode i <+: tableBytes nbits w)
    (hi : i.wellFormed = true) : decodeTableWord nbits w = some i := by
  obtain ⟨rest, hrest⟩ := h
  simp only [decodeTableWord, ← hrest, decode_encode hi]

end

/-! ## The statements -/

/-- Settles O21, by `decode_encode`. -/
theorem decodeInvertsEncode : Obligations.DecodeInvertsEncode := by
  unfold Obligations.DecodeInvertsEncode
  exact fun _ _ => decode_encode

/-- Settles O22, by `decode_sound`; the empty list does not decode. -/
theorem encodeInvertsDecode : Obligations.EncodeInvertsDecode := by
  unfold Obligations.EncodeInvertsDecode
  intro bytes rest i h
  cases bytes with
  | nil => cases h
  | cons op tail =>
    obtain ⟨hwf, hbytes, _⟩ := decode_sound h
    exact ⟨hwf, hbytes⟩

/-- Settles O23: the length is that of the first byte's entry, and an illegal byte is well-formed only if listed. -/
theorem decodingIsTotal : Obligations.DecodingIsTotal := by
  unfold Obligations.DecodingIsTotal
  intro op b1 b2
  obtain ⟨i, rest, h⟩ := decode_three op b1 b2
  obtain ⟨hwf, hbytes, hlen⟩ := decode_sound h
  refine ⟨i, ?_, hlen ▸ Entry.length_mem _, ?_, fun c1 c2 j rest' hj => ?_, ?_, fun hop => ?_⟩
  · rw [h, hbytes, List.drop_left]
  · rintro rfl
    rw [hlen, primary_prefix, Entry.length]
  · obtain ⟨_, _, hlen'⟩ := decode_sound hj
    rw [hlen', hlen]
  · rintro rfl
    exact List.contains_iff_mem.1 hwf
  · cases h.symm.trans (decode_op (primary_illegal op hop))
    rfl

/-- Settles O24: the bytes of each word begin with the encoding of its instruction. -/
theorem writtenOutWordsDecode : Obligations.WrittenOutWordsDecode := by
  unfold Obligations.WrittenOutWordsDecode
  and_intros <;> exact decodeTableWord_of_prefix (by decide) rfl

end Sys2Proof
end

section
/-!
PROOFS. The prefixed instructions by the fields of their second byte (R103, R115): the table's entry and the meaning
that the row `PREFIX CB` selects are the same member of the same family.
-/

namespace Sys2Proof

/-- The prefixed instruction of the fields `x` and `y` and the operand that `z` stands for: a register, or `(HL)`
(R115). -/
def Instr.ofFields (x : Nat) (y : Fin 8) (operand : Option Reg8) : Instr :=
  match operand, x with
  | some r, 0 => .rotReg (RotOp.ofCode y.val) r
  | some r, 1 => .bitReg y r
  | some r, 2 => .resReg y r
  | some r, _ => .setReg y r
  | none, 0 => .rotAtHl (RotOp.ofCode y.val)
  | none, 1 => .bitAtHl y
  | none, 2 => .resAtHl y
  | none, _ => .setAtHl y

/-- The grid R117 is the field rule R115, entry by entry. -/
theorem secondary_eq_ofFields (op2 : Byte) :
    secondary op2 = .ofFields (op2.toNat / 64) ⟨op2.toNat / 8 % 8, Nat.mod_lt _ (by decide)⟩
      (Reg8.ofCode (op2.toNat % 8)) := by
  revert op2; decide +kernel

namespace Machine

section
variable (op : RotOp) (b : Fin 8) (r : Reg8) (s : State)

/-! ## The meanings of the prefixed families -/

theorem exec_rotReg : exec (.rotReg op r) s = rotReg op r s := by
  cases op <;> cases r <;> rfl

theorem exec_rotAtHl : exec (.rotAtHl op) s = rotMem op s := by
  cases op <;> rfl

theorem exec_bitReg : exec (.bitReg b r) s = bitReg b r s := by
  cases r <;> fin_cases b <;> rfl

theorem exec_bitAtHl : exec (.bitAtHl b) s = bitMem b s := by
  fin_cases b <;> rfl

theorem exec_resReg : exec (.resReg b r) s = resReg b r s := by
  cases r <;> fin_cases b <;> rfl

theorem exec_resAtHl : exec (.resAtHl b) s = resMem b s := by
  fin_cases b <;> rfl

theorem exec_setReg : exec (.setReg b r) s = setReg b r s := by
  cases r <;> fin_cases b <;> rfl

theorem exec_setAtHl : exec (.setAtHl b) s = setMem b s := by
  fin_cases b <;> rfl

end

/-- Dispatch through the table and dispatch by the fields run the same meaning. -/
theorem exec_secondary (op2 : Byte) (s : State) : exec (secondary op2) s = execSecondary op2 s := by
  rw [secondary_eq_ofFields]
  unfold execSecondary
  cases Reg8.ofCode (op2.toNat % 8) with
  | some r =>
    match op2.toNat / 64 with
    | 0 => exact exec_rotReg ..
    | 1 => exact exec_bitReg ..
    | 2 => exact exec_resReg ..
    | _ + 3 => exact exec_setReg ..
  | none =>
    match op2.toNat / 64 with
    | 0 => exact exec_rotAtHl ..
    | 1 => exact exec_bitAtHl ..
    | 2 => exact exec_resAtHl ..
    | _ + 3 => exact exec_setAtHl ..

/-- The row `PREFIX CB` by itself runs the instruction that the byte at `pc` selects (R285, entry 11). -/
theorem exec_prefixCb (s : State) :
    exec .prefixCb s = exec (secondary (s.read8 s.regs.pc)) { s with regs.pc := s.regs.pc + 1 } :=
  (exec_secondary ..).symm

/-- Settles O19: the grid by `secondary_eq_ofFields`, the second clause by `exec_prefixCb`. -/
theorem prefixSelectsByFields : Obligations.PrefixSelectsByFields := by
  unfold Obligations.PrefixSelectsByFields
  refine ⟨fun op2 rest => ⟨decode_page primary_prefix op2, secondary_eq_ofFields op2⟩, fun s => ?_⟩
  obtain ⟨t, ht, _⟩ := exec_runs (secondary (s.read8 s.regs.pc)) { s with regs.pc := s.regs.pc + 1 }
  exact ⟨t, ht, (exec_prefixCb s).trans ht⟩

end Machine

end Sys2Proof
end

section
/-!
PROOFS. The 8-bit loads (R130 to R148): one lemma per family for its bytes and one for the shared operation that its
rows run, so that each statement is a list of its forms.
-/

namespace Sys2Proof.Machine

section
variable (dst src : Reg8) (n : Byte) (step : Word) (s : State)

/-! ## The families: bytes and meaning -/

theorem encode_ldRegReg : encode (.ldRegReg dst src) = [opcodeByte 1 dst.code src.code] := by
  cases dst <;> cases src <;> rfl

theorem exec_ldRegReg : exec (.ldRegReg dst src) s = loadReg dst src s := by
  cases dst <;> cases src <;> rfl

theorem encode_ldRegImm : encode (.ldRegImm dst n) = [opcodeByte 0 dst.code 6, n] := by
  cases dst <;> rfl

theorem exec_ldRegImm : exec (.ldRegImm dst n) s = loadImm dst n s := by
  cases dst <;> rfl

theorem encode_ldRegAtHl : encode (.ldRegAtHl dst) = [opcodeByte 1 dst.code 6] := by
  cases dst <;> rfl

theorem exec_ldRegAtHl : exec (.ldRegAtHl dst) s = loadMem dst s.hl 8 s := by
  cases dst <;> rfl

theorem encode_ldAtHlReg : encode (.ldAtHlReg src) = [opcodeByte 1 6 src.code] := by
  cases src <;> rfl

theorem exec_ldAtHlReg : exec (.ldAtHlReg src) s = storeMem s.hl (s.reg src) 8 s := by
  cases src <;> rfl

/-! ## The moves of `HL` -/

/-- The access is at `HL` as it was, and `HL` moves by `step` modulo 65536 (R145, R147). -/
theorem loadAHlStep_eq :
    loadAHlStep step s = .next { s with
      regs.a := s.read8 s.hl, regs.h := hi8 (s.hl + step), regs.l := lo8 (s.hl + step), cycles := 8 } := rfl

/-- The byte goes to `HL` as it was, and `HL` moves by `step` modulo 65536 (R146, R148). -/
theorem storeAHlStep_eq :
    storeAHlStep step s = .next { s.write8 s.hl s.regs.a with
      regs.h := hi8 (s.hl + step), regs.l := lo8 (s.hl + step), cycles := 8 } := rfl

end

/-! ## The statements -/

/-- Settles O1, by the two families. -/
theorem registerLoads : Obligations.RegisterLoads := by
  unfold Obligations.RegisterLoads
  exact fun s dst src n =>
    ⟨encode_ldRegReg dst src, exec_ldRegReg dst src s, encode_ldRegImm dst n, exec_ldRegImm dst n s⟩

/-- Settles O2: `LD r,(HL)` by its family, the five forms of one row each by `loadMem`. -/
theorem loadsFromMemory : Obligations.LoadsFromMemory := by
  unfold Obligations.LoadsFromMemory
  exact fun s dst _ _ => ⟨⟨encode_ldRegAtHl dst, exec_ldRegAtHl dst s⟩,
    ⟨rfl, rfl⟩, ⟨rfl, rfl⟩, ⟨rfl, rfl⟩, ⟨rfl, rfl⟩, ⟨rfl, rfl⟩⟩

/-- Settles O3: `LD (HL),r` by its family, the six forms of one row each by `storeMem`. -/
theorem storesToMemory : Obligations.StoresToMemory := by
  unfold Obligations.StoresToMemory
  exact fun s src _ _ => ⟨⟨encode_ldAtHlReg src, exec_ldAtHlReg src s⟩,
    ⟨rfl, rfl⟩, ⟨rfl, rfl⟩, ⟨rfl, rfl⟩, ⟨rfl, rfl⟩, ⟨rfl, rfl⟩, ⟨rfl, rfl⟩⟩

/-- Settles O4: the decrement of the rules is the model's step by -1. -/
theorem loadsThatStepHl : Obligations.LoadsThatStepHl := by
  unfold Obligations.LoadsThatStepHl
  intro s
  simp only [BitVec.sub_eq_add_neg]
  exact ⟨⟨rfl, loadAHlStep_eq (-1) s⟩, ⟨rfl, storeAHlStep_eq (-1) s⟩,
    ⟨rfl, loadAHlStep_eq 1 s⟩, ⟨rfl, storeAHlStep_eq 1 s⟩⟩

end Sys2Proof.Machine
end

section
/-!
PROOFS. The 16-bit loads and the stack (R160 to R168): the bytes and the meaning of each family, and what a pop reads
of the word that a push stored.
-/

namespace Sys2Proof.Machine

section
variable (p : Reg16) (q r : StackPair) (nn : Word) (s : State)

/-! ## The families: bytes and meaning -/

theorem encode_ldPairImm : encode (.ldPairImm p nn) = [opcodeByte 0 (2 * p.code) 1, lo8 nn, hi8 nn] := by
  cases p <;> rfl

theorem exec_ldPairImm : exec (.ldPairImm p nn) s = loadPairImm p nn s := by
  cases p <;> rfl

theorem encode_push : encode (.push q) = [opcodeByte 3 (2 * q.code) 5] := by
  cases q <;> rfl

theorem exec_push : exec (.push q) s = pushPair q s := by
  cases q <;> rfl

theorem encode_pop : encode (.pop q) = [opcodeByte 3 (2 * q.code) 1] := by
  cases q <;> rfl

theorem exec_pop : exec (.pop q) s = popPair q s := by
  cases q <;> rfl

/-! ## The stack pairs -/

/-- A word written to `BC`, `DE` or `HL` reads back; `AF` would lose the unused nibble (R22, R28). -/
theorem State.qq_setQq (hq : q ≠ .af) (w : Word) (k : Nat) : ({ s.setQq q w with cycles := k } : State).qq q = w := by
  cases q
  case af => exact absurd rfl hq
  all_goals exact pair_halves w

/-- A pair given its own word is as it was, and so is `AF` with its flags (R166). -/
theorem State.setQq_qq : s.setQq q (s.qq q) = s := by
  cases q <;> simp [State.setQq, State.qq, State.setBc, State.setDe, State.setHl, State.bc, State.de, State.hl]

/-- A pair reads the registers, and for `AF` the layout of the flag byte (R27). -/
theorem State.qq_congr {t u : State} (hregs : u.regs = t.regs) (hcfg : u.cfg = t.cfg) : u.qq q = t.qq q := by
  cases q <;> simp only [State.qq, State.bc, State.de, State.hl, hregs, hcfg]

end

/-! ## A pop after a push -/

section
variable {s t u : State} {q r : StackPair}

/-- The cost of an instruction is not on the stack. -/
theorem State.top16_setCycles (s : State) (k : Nat) : ({ s with cycles := k } : State).top16 = s.top16 := rfl

/-- The word a push stores in two stored bytes is the word on top of the stack (R168). -/
theorem State.top16_push16 (h0 : targetOf (s.regs.sp - 2) = .cell) (h1 : targetOf (s.regs.sp - 1) = .cell)
    (w : Word) : (s.push16 w).top16 = w := by
  have hsucc : s.regs.sp - 2 + 1 = s.regs.sp - 1 := by bv_omega
  obtain ⟨_, _, hcells⟩ := wordAccesses { s with regs.sp := s.regs.sp - 2 } (s.regs.sp - 2) w
  obtain ⟨_, _, hword, _⟩ := hcells h0 (hsucc ▸ h1)
  rw [State.top16, State.push16_regs]
  exact hword

/-- After a push of `qq[q]` to two stored bytes, its word is on top of the stack and `SP` alone of the registers has
moved (R164, R165). -/
theorem push_next (h0 : targetOf (s.regs.sp - 2) = .cell) (h1 : targetOf (s.regs.sp - 1) = .cell)
    (h : exec (.push q) s = .next t) :
    t.top16 = s.qq q ∧ t.dropTop.regs = s.regs ∧ t.cfg = s.cfg := by
  cases (exec_push q s).symm.trans h
  refine ⟨(State.top16_setCycles _ 16).trans (State.top16_push16 h0 h1 _), ?_, State.push16_cfg ..⟩
  rw [State.dropTop_regs, State.push16_regs, BitVec.sub_add_cancel]

/-- A pop gives its pair the word on top of the stack (R166, R167). -/
theorem pop_next (h : exec (.pop r) t = .next u) :
    u = { t.dropTop.setQq r t.top16 with cycles := 12 } :=
  (Host.Outcome.next.inj ((exec_pop r t).symm.trans h)).symm

end

/-! ## The statements -/

/-- Settles O54: the pop writes the pushed word, by `push_next`; the popped pair reads it, and `AF` gets back what it
held. -/
theorem pushThenPop : Obligations.PushThenPop := by
  unfold Obligations.PushThenPop
  intro s t u q r _ hr h0 h1
  refine ⟨fun hpush hpop => ?_, fun hpush hpop => ?_⟩
  · obtain ⟨htop, hregs, _⟩ := push_next h0 h1 hpush
    obtain rfl := pop_next hpop
    exact ⟨(State.qq_setQq r _ hr _ _).trans htop, (State.setQq_sp ..).trans (congrArg Regs.sp hregs)⟩
  · obtain ⟨htop, hregs, hcfg⟩ := push_next h0 h1 hpush
    obtain rfl := pop_next hpop
    have haf : t.dropTop.qq .af = t.top16 := (State.qq_congr .af hregs hcfg).trans htop.symm
    rw [← haf, State.setQq_qq, hregs]

/-- Settles O5: `LD rr,nn` by its family, the three forms of one row each by their shared operations. -/
theorem wordLoads : Obligations.WordLoads := by
  unfold Obligations.WordLoads
  exact fun s p nn _ => ⟨⟨encode_ldPairImm p nn, exec_ldPairImm p nn s⟩, ⟨rfl, rfl⟩, ⟨rfl, rfl⟩, ⟨rfl, rfl⟩⟩

/-- Settles O6, by the two families. -/
theorem pushAndPop : Obligations.PushAndPop := by
  unfold Obligations.PushAndPop
  exact fun s q => ⟨⟨encode_push q, exec_push q s⟩, ⟨encode_pop q, exec_pop q s⟩⟩

end Sys2Proof.Machine
end

section
/-!
PROOFS. 8-bit arithmetic and logic (R170 to R204): the bytes and the meaning of each register family, the flags of
`INC` and `DEC` on natural numbers, and `DAA` on integers.
-/

namespace Sys2Proof

/-- The 3-bit code of an arithmetic-logic operation (R108). -/
def AluOp.code : AluOp → Nat
  | .add => 0
  | .adc => 1
  | .sub => 2
  | .sbc => 3
  | .and => 4
  | .xor => 5
  | .or => 6
  | .cp => 7

namespace Machine

section
variable (op : AluOp) (r : Reg8) (a v : Byte) (f : Flags) (s : State)

/-! ## The families: bytes and meaning -/

theorem encode_aluReg : encode (.aluReg op r) = [opcodeByte 2 op.code r.code] := by
  cases op <;> cases r <;> rfl

theorem exec_aluReg : exec (.aluReg op r) s = aluReg op r s := by
  cases op <;> cases r <;> rfl

theorem encode_incReg : encode (.incReg r) = [opcodeByte 0 r.code 4] := by
  cases r <;> rfl

theorem exec_incReg : exec (.incReg r) s = incReg r s := by
  cases r <;> rfl

theorem encode_decReg : encode (.decReg r) = [opcodeByte 0 r.code 5] := by
  cases r <;> rfl

theorem exec_decReg : exec (.decReg r) s = decReg r s := by
  cases r <;> rfl

/-! ## The flags on numbers -/

theorem carry_toNat : f.c.toNat = if f.c then 1 else 0 := Bool.cond_eq_ite ..

theorem inc8Flags_eq :
    inc8Flags v f =
      { z := decide ((v.toNat + 1) % 256 = 0), n := false, h := decide (v.toNat % 16 = 15), c := f.c } := by
  have hz : v + 1 = 0 ↔ (v.toNat + 1) % 256 = 0 := by bv_omega
  simp only [inc8Flags, hz]

theorem dec8Flags_eq :
    dec8Flags v f = { z := decide (v.toNat = 1), n := true, h := decide (v.toNat % 16 = 0), c := f.c } := by
  have hz : v - 1 = 0 ↔ v.toNat = 1 := by bv_omega
  simp only [dec8Flags, hz]

/-! ## `DAA` on integers -/

/-- A byte narrowed from an integer is 0 exactly for the multiples of 256. -/
theorem ofInt_eq_zero_iff (i : Int) : BitVec.ofInt 8 i = 0 ↔ i % 256 = 0 := by
  rw [← BitVec.toNat_inj, BitVec.toNat_ofInt]
  change _ = 0 ↔ _
  omega

/-- The byte sum is the integer sum, narrowed. -/
theorem ofInt_toNat_add : BitVec.ofInt 8 ((a.toNat : Int) + v.toNat) = a + v := by
  rw [← BitVec.toNat_inj, BitVec.toNat_ofInt, BitVec.toNat_add]
  omega

/-- The byte difference is the integer difference, narrowed. -/
theorem ofInt_toNat_sub : BitVec.ofInt 8 ((a.toNat : Int) - v.toNat) = a - v := by
  rw [← BitVec.toNat_inj, BitVec.toNat_ofInt, BitVec.toNat_sub]
  omega

/-- The low and the high part of the adjustment have no bit in common, so their bitwise or is their sum (R198). -/
theorem daaAdjustment_toNat (low high : Prop) [Decidable low] [Decidable high] :
    (((if low then 0x06 else 0 : Byte) ||| if high then 0x60 else 0).toNat : Int) =
      (if low then 6 else 0) + if high then 0x60 else 0 := by
  by_cases low <;> by_cases high <;> simp [*]

/-- The integer by which `DAA` moves `A` (R198). -/
def daaAmount : Int :=
  (if f.h = true ∨ (f.n = false ∧ a.toNat % 16 > 9) then 6 else 0) +
    if f.c = true ∨ (f.n = false ∧ a.toNat > 0x99) then 0x60 else 0

/-- The flags of `DAA` after the result `i` and with the carry `c` (R198). -/
def daaFlags (i : Int) (c : Bool) : Flags := { z := decide (i % 256 = 0), n := f.n, h := false, c := c }

/-- The byte that `DAA` adds or subtracts is `daaAmount`. -/
theorem daaAmount_eq_toNat :
    daaAmount a f =
      ((if f.h || (!f.n && decide (a.toNat % 16 > 0x09)) then 0x06 else 0 : Byte) |||
        if f.c || (!f.n && decide (a.toNat > 0x99)) then 0x60 else 0).toNat := by
  simp only [daaAmount, daaAdjustment_toNat, Bool.or_eq_true, Bool.and_eq_true, Bool.not_eq_true', decide_eq_true_eq]

/-- `DAA` after an addition (R198). -/
theorem daa8_of_addition (hn : f.n = false) :
    daa8 a f = (BitVec.ofInt 8 (a.toNat + daaAmount a f),
      daaFlags f (a.toNat + daaAmount a f) (decide (f.c = true ∨ a.toNat > 0x99))) := by
  simp only [daaFlags, ← ofInt_eq_zero_iff, daaAmount_eq_toNat, ofInt_toNat_add]
  simp [daa8, hn]

/-- `DAA` after a subtraction (R198). -/
theorem daa8_of_subtraction (hn : f.n = true) :
    daa8 a f = (BitVec.ofInt 8 (a.toNat - daaAmount a f), daaFlags f (a.toNat - daaAmount a f) f.c) := by
  simp only [daaFlags, ← ofInt_eq_zero_iff, daaAmount_eq_toNat, ofInt_toNat_sub]
  simp [daa8, hn]

/-- `DAA` writes `A` and the flags, and costs 4 cycles (R198). -/
theorem exec_daa_eq (h : daa8 s.regs.a s.regs.flags = (a, f)) :
    exec .daa s = .next { s with regs.a := a, regs.flags := f, cycles := 4 } :=
  congrArg (fun r : Byte × Flags => finish 4 ((s.setReg .a r.1).setFlags r.2)) h

/-! ## `CPL` -/

/-- `CPL` flips every bit of `A` and sets `Nf` and `Hf` (R199). -/
theorem exec_cpl_eq :
    exec .cpl s = .next { s with
      regs.a := s.regs.a ^^^ 0xFF, regs.flags.n := true, regs.flags.h := true, cycles := 4 } := by
  rw [show (0xFF : Byte) = BitVec.allOnes 8 from rfl, BitVec.xor_allOnes]
  rfl

end

/-! ## The statements -/

/-- Settles O11: `DAA` by its two branches, `CPL` by `exec_cpl_eq`, `SCF` and `CCF` by their shared operations. -/
theorem accumulatorAdjustments : Obligations.AccumulatorAdjustments := by
  unfold Obligations.AccumulatorAdjustments
  exact fun s => ⟨⟨rfl, fun hn => exec_daa_eq _ _ s (daa8_of_addition _ _ hn),
      fun hn => exec_daa_eq _ _ s (daa8_of_subtraction _ _ hn)⟩,
    ⟨rfl, exec_cpl_eq s⟩, ⟨rfl, rfl⟩, ⟨rfl, rfl⟩⟩

/-- Settles O7: `Cf` as a number by `carry_toNat`, the register forms by their family, the four forms
of one row each by `aluMem` and `aluImm`. -/
theorem additionResults : Obligations.AdditionResults := by
  unfold Obligations.AdditionResults
  intro s r n
  simp only [← carry_toNat]
  exact ⟨⟨encode_aluReg .add r, exec_aluReg .add r s⟩, ⟨rfl, rfl⟩, ⟨rfl, rfl⟩,
    ⟨encode_aluReg .adc r, exec_aluReg .adc r s⟩, ⟨rfl, rfl⟩, ⟨rfl, rfl⟩⟩

/-- Settles O8: `Cf` as a number by `carry_toNat`, the register forms by their family, the six forms
of one row each by `aluMem` and `aluImm`. -/
theorem subtractionResults : Obligations.SubtractionResults := by
  unfold Obligations.SubtractionResults
  intro s r n
  simp only [← carry_toNat]
  exact ⟨⟨encode_aluReg .sub r, exec_aluReg .sub r s⟩, ⟨rfl, rfl⟩, ⟨rfl, rfl⟩,
    ⟨encode_aluReg .sbc r, exec_aluReg .sbc r s⟩, ⟨rfl, rfl⟩, ⟨rfl, rfl⟩,
    ⟨encode_aluReg .cp r, exec_aluReg .cp r s⟩, ⟨rfl, rfl⟩, ⟨rfl, rfl⟩⟩

/-- Settles O9: the register forms by their family, the six forms of one row each by `aluMem` and `aluImm`. -/
theorem logicResults : Obligations.LogicResults := by
  unfold Obligations.LogicResults
  exact fun s r _ => ⟨⟨encode_aluReg .and r, exec_aluReg .and r s⟩, ⟨rfl, rfl⟩, ⟨rfl, rfl⟩,
    ⟨encode_aluReg .xor r, exec_aluReg .xor r s⟩, ⟨rfl, rfl⟩, ⟨rfl, rfl⟩,
    ⟨encode_aluReg .or r, exec_aluReg .or r s⟩, ⟨rfl, rfl⟩, ⟨rfl, rfl⟩⟩

/-- Settles O10: the flags by `inc8Flags_eq` and `dec8Flags_eq`, the register forms by their families. -/
theorem incrementResults : Obligations.IncrementResults := by
  unfold Obligations.IncrementResults
  intro s r
  simp only [← inc8Flags_eq, ← dec8Flags_eq]
  exact ⟨⟨encode_incReg r, exec_incReg r s⟩, ⟨rfl, rfl⟩, ⟨encode_decReg r, exec_decReg r s⟩, ⟨rfl, rfl⟩⟩

end Machine

end Sys2Proof
end

section
/-!
PROOFS. 16-bit arithmetic (R210 to R213): the bytes and the meaning of the three families over `rr[p]`.
-/

namespace Sys2Proof.Machine

section
variable (p : Reg16) (s : State)

/-! ## The families: bytes and meaning -/

theorem encode_addHlPair : encode (.addHlPair p) = [opcodeByte 0 (2 * p.code + 1) 1] := by
  cases p <;> rfl

theorem exec_addHlPair : exec (.addHlPair p) s = addHl p s := by
  cases p <;> rfl

theorem encode_incPair : encode (.incPair p) = [opcodeByte 0 (2 * p.code) 3] := by
  cases p <;> rfl

theorem exec_incPair : exec (.incPair p) s = incPair p s := by
  cases p <;> rfl

theorem encode_decPair : encode (.decPair p) = [opcodeByte 0 (2 * p.code + 1) 3] := by
  cases p <;> rfl

theorem exec_decPair : exec (.decPair p) s = decPair p s := by
  cases p <;> rfl

end

/-! ## The statement -/

/-- Settles O12: the register forms by their families, whose sums and carries are those of `add16`; `ADD SP,e` by
`addDisp`. -/
theorem wordArithmetic : Obligations.WordArithmetic := by
  unfold Obligations.WordArithmetic
  exact fun s p _ => ⟨⟨encode_addHlPair p, exec_addHlPair p s⟩, ⟨encode_incPair p, exec_incPair p s⟩,
    ⟨encode_decPair p, exec_decPair p s⟩, ⟨rfl, rfl⟩⟩

end Sys2Proof.Machine
end

section
/-!
PROOFS. Rotates, shifts and bit instructions (R220 to R245): the bytes of each prefixed family, the eight rotate-shift
operations as arithmetic on natural numbers, and what `RES` and `SET` write bit by bit. The meanings of the prefixed
families are those of `exec_rotReg` to `exec_setAtHl`.
-/

namespace Sys2Proof

/-- A rotate-shift operation as arithmetic on the operand `n`, a number below 256, and the carry `c`: the result and
the bit shifted out (R224 to R239). -/
def RotOp.onNat (op : RotOp) (n c : Nat) : Nat × Bool :=
  match op with
  | .rlc => (2 * n % 256 + n / 128, decide (n ≥ 128))
  | .rrc => (n / 2 + 128 * (n % 2), decide (n % 2 = 1))
  | .rl => (2 * n % 256 + c, decide (n ≥ 128))
  | .rr => (n / 2 + 128 * c, decide (n % 2 = 1))
  | .sla => (2 * n % 256, decide (n ≥ 128))
  | .sra => (n / 2 + 128 * (n / 128), decide (n % 2 = 1))
  | .swap => (16 * n % 256 + n / 16, false)
  | .srl => (n / 2, decide (n % 2 = 1))

/-- The result is a byte. -/
theorem RotOp.onNat_lt (op : RotOp) {n c : Nat} (hn : n < 256) (hc : c ≤ 1) : (op.onNat n c).1 < 256 := by
  cases op <;> simp only [RotOp.onNat] <;> omega

namespace Machine

section
variable (op : RotOp) (b : Fin 8) (r : Reg8) (v : Byte) (c : Bool) (s : State)

/-! ## The families: bytes -/

theorem encode_rotReg : encode (.rotReg op r) = [0xCB, opcodeByte 0 op.code r.code] := by
  cases op <;> cases r <;> rfl

theorem encode_rotAtHl : encode (.rotAtHl op) = [0xCB, opcodeByte 0 op.code 6] := by
  cases op <;> rfl

theorem encode_bitReg : encode (.bitReg b r) = [0xCB, opcodeByte 1 b.val r.code] := by
  cases r <;> fin_cases b <;> rfl

theorem encode_bitAtHl : encode (.bitAtHl b) = [0xCB, opcodeByte 1 b.val 6] := by
  fin_cases b <;> rfl

theorem encode_resReg : encode (.resReg b r) = [0xCB, opcodeByte 2 b.val r.code] := by
  cases r <;> fin_cases b <;> rfl

theorem encode_resAtHl : encode (.resAtHl b) = [0xCB, opcodeByte 2 b.val 6] := by
  fin_cases b <;> rfl

theorem encode_setReg : encode (.setReg b r) = [0xCB, opcodeByte 3 b.val r.code] := by
  cases r <;> fin_cases b <;> rfl

theorem encode_setAtHl : encode (.setAtHl b) = [0xCB, opcodeByte 3 b.val 6] := by
  fin_cases b <;> rfl

/-! ## Rotates and shifts on numbers -/

/-- Two bytes that meet at bit `i` without overlap: their bitwise or is their sum. -/
theorem toNat_or_of_split {x y : Byte} {i : Nat} (hx : 2 ^ i ∣ x.toNat) (hy : y.toNat < 2 ^ i) :
    (x ||| y).toNat = x.toNat + y.toNat := by
  obtain ⟨a, ha⟩ := hx
  rw [BitVec.toNat_or, ha, Nat.two_pow_add_eq_or_of_lt hy]

theorem toNat_bool8 : (bool8 c).toNat = c.toNat := by cases c <;> rfl

theorem toNat_bool8_shift_seven : (bool8 c <<< 7).toNat = 128 * c.toNat := by cases c <;> rfl

theorem toNat_shiftLeft_byte (i : Nat) : (v <<< i).toNat = 2 ^ i * v.toNat % 256 := by
  rw [BitVec.toNat_shiftLeft, Nat.shiftLeft_eq, Nat.mul_comm]

theorem toNat_ushiftRight_byte (i : Nat) : (v >>> i).toNat = v.toNat / 2 ^ i := by
  rw [BitVec.toNat_ushiftRight, Nat.shiftRight_eq_div_pow]

/-- A shift to the left that takes in the bit `c`. -/
theorem toNat_shiftLeft_or : (v <<< 1 ||| bool8 c).toNat = 2 * v.toNat % 256 + c.toNat := by
  have hv := toNat_shiftLeft_byte v 1
  have hc := toNat_bool8 c
  have hbit : c.toNat < 2 := c.toNat_lt
  rw [toNat_or_of_split (i := 1) (by omega) (by omega)]
  omega

/-- A shift to the right that takes in the bit `c`. -/
theorem toNat_ushiftRight_or : (v >>> 1 ||| bool8 c <<< 7).toNat = v.toNat / 2 + 128 * c.toNat := by
  have hv := toNat_ushiftRight_byte v 1
  have hc := toNat_bool8_shift_seven c
  rw [BitVec.or_comm, toNat_or_of_split (i := 7) (by omega) (by omega)]
  omega

/-- The two nibbles exchanged. -/
theorem toNat_nibbles_exchanged : (v <<< 4 ||| v >>> 4).toNat = 16 * v.toNat % 256 + v.toNat / 16 := by
  have hhigh := toNat_shiftLeft_byte v 4
  have hlow := toNat_ushiftRight_byte v 4
  rw [toNat_or_of_split (i := 4) (by omega) (by omega)]
  omega

theorem bitOf_seven : bitOf v 7 = decide (v.toNat ≥ 128) := by
  refine Nat.testBit_eq_decide_div_mod_eq.trans (decide_eq_decide.mpr ?_)
  omega

theorem bitOf_zero : bitOf v 0 = decide (v.toNat % 2 = 1) := Nat.testBit_zero _

theorem toNat_bitOf_seven : (bitOf v 7).toNat = v.toNat / 128 := by
  refine (Nat.toNat_testBit ..).trans ?_
  omega

theorem toNat_bitOf_zero : (bitOf v 0).toNat = v.toNat % 2 := by
  refine (Nat.toNat_testBit ..).trans ?_
  omega

/-- Bit `k` alone, left in place; `SRA` keeps bit 7 so (R234). -/
theorem and_bitMask {k : Nat} : v &&& bitMask k = bool8 (bitOf v k) <<< k := by
  refine BitVec.eq_of_getLsbD_eq fun j hj => ?_
  change bitOf (v &&& bitMask k) j = bitOf (bool8 (bitOf v k) <<< k) j
  rw [bitOf_and, bitOf_bitMask _ hj, bitOf_bool8_shift _ _ hj]
  by_cases h : j = k
  · rw [h]
  · simp [h]

/-- The model's bit expressions are the arithmetic of `RotOp.onNat`. -/
theorem rotate8_eq :
    rotate8 op v c = (BitVec.ofNat 8 (op.onNat v.toNat c.toNat).1, (op.onNat v.toNat c.toNat).2) := by
  have hresult : (rotate8 op v c).1.toNat = (op.onNat v.toNat c.toNat).1 := by
    cases op with
    | rlc => exact (toNat_shiftLeft_or ..).trans (congrArg _ (toNat_bitOf_seven v))
    | rrc => exact (toNat_ushiftRight_or ..).trans (congrArg (_ + 128 * ·) (toNat_bitOf_zero v))
    | rl => exact toNat_shiftLeft_or ..
    | rr => exact toNat_ushiftRight_or ..
    | sla => exact toNat_shiftLeft_byte v 1
    | sra =>
      exact (congrArg (fun w => (v >>> 1 ||| w).toNat) (and_bitMask v (k := 7))).trans
        ((toNat_ushiftRight_or ..).trans (congrArg (_ + 128 * ·) (toNat_bitOf_seven v)))
    | swap => exact toNat_nibbles_exchanged v
    | srl => exact toNat_ushiftRight_byte v 1
  have hout : (rotate8 op v c).2 = (op.onNat v.toNat c.toNat).2 := by
    cases op with
    | rlc | rl | sla => exact bitOf_seven v
    | rrc | rr | sra | srl => exact bitOf_zero v
    | swap => rfl
  rw [← hresult, ← hout, BitVec.ofNat_toNat, BitVec.setWidth_eq]

/-- The result is a byte, so `Zf` of a prefixed rotate or shift tests the number (R224 to R239). -/
theorem rotFlags_onNat (out : Bool) :
    rotFlags (BitVec.ofNat 8 (op.onNat v.toNat c.toNat).1, out) =
      { z := decide ((op.onNat v.toNat c.toNat).1 = 0), n := false, h := false, c := out } := by
  have hlt := op.onNat_lt v.isLt c.toNat_le
  have hz : BitVec.ofNat 8 (op.onNat v.toNat c.toNat).1 = 0 ↔ (op.onNat v.toNat c.toNat).1 = 0 := by
    rw [← BitVec.toNat_inj, BitVec.toNat_ofNat, Nat.mod_eq_of_lt hlt]; rfl
  simp only [rotFlags, hz]

/-- An accumulator rotate on numbers (R220 to R223). -/
theorem rotAcc_eq :
    let x := op.onNat s.regs.a.toNat s.regs.flags.c.toNat
    rotAcc op s = .next { s with
      regs.a := BitVec.ofNat 8 x.1, regs.flags := { z := false, n := false, h := false, c := x.2 }, cycles := 4 } := by
  simp only [rotAcc, rotate8_eq]
  rfl

/-- A prefixed rotate or shift on numbers, of a register and of the byte at `HL` (R224 to R239). -/
theorem prefixedRotate :
    let x := fun w : Byte => op.onNat w.toNat s.regs.flags.c.toNat
    let flags := fun w : Byte => ({ z := decide ((x w).1 = 0), n := false, h := false, c := (x w).2 } : Flags)
    (encode (.rotReg op r) = [0xCB, opcodeByte 0 op.code r.code] ∧
      exec (.rotReg op r) s = .next { s.setReg r (BitVec.ofNat 8 (x (s.reg r)).1) with
        regs.flags := flags (s.reg r), cycles := 8 }) ∧
    (encode (.rotAtHl op) = [0xCB, opcodeByte 0 op.code 6] ∧
      exec (.rotAtHl op) s = .next { s.write8 s.hl (BitVec.ofNat 8 (x (s.read8 s.hl)).1) with
        regs.flags := flags (s.read8 s.hl), cycles := 16 }) := by
  simp only [exec_rotReg, rotReg, exec_rotAtHl, rotMem, rotate8_eq, rotFlags_onNat]
  exact ⟨⟨encode_rotReg op r, rfl⟩, encode_rotAtHl op, rfl⟩

/-! ## `RES` and `SET` bit by bit -/

theorem bitOf_resBit {j : Nat} (k : Nat) (hj : j < 8) : bitOf (resBit k v) j = if j = k then false else bitOf v j := by
  rw [resBit, bitOf_clear _ _ hj]
  by_cases j = k <;> simp [*]

theorem bitOf_setBit {j : Nat} (k : Nat) (hj : j < 8) : bitOf (setBit k v) j = if j = k then true else bitOf v j := by
  rw [setBit, bitOf_or, bitOf_bitMask _ hj]
  by_cases j = k <;> simp [*]

end

/-! ## The statements -/

/-- Settles O13: `Cf` as a number by `carry_toNat`, then the accumulator forms by `rotAcc_eq` and the prefixed ones by
`prefixedRotate`. -/
theorem rotateResults : Obligations.RotateResults := by
  unfold Obligations.RotateResults
  intro s r
  simp only [← carry_toNat]
  exact ⟨⟨rfl, rotAcc_eq .rlc s⟩, ⟨rfl, rotAcc_eq .rl s⟩, ⟨rfl, rotAcc_eq .rrc s⟩, ⟨rfl, rotAcc_eq .rr s⟩,
    prefixedRotate .rlc r s, prefixedRotate .rrc r s, prefixedRotate .rl r s, prefixedRotate .rr r s⟩

/-- Settles O14: `prefixedRotate` at the four operations that take in no carry. -/
theorem shiftResults : Obligations.ShiftResults := by
  unfold Obligations.ShiftResults
  exact fun s r =>
    ⟨prefixedRotate .sla r s, prefixedRotate .sra r s, prefixedRotate .swap r s, prefixedRotate .srl r s⟩

/-- Settles O15: the byte written is `resBit` or `setBit` of the operand. -/
theorem bitResults : Obligations.BitResults := by
  unfold Obligations.BitResults
  exact fun s b r => ⟨⟨encode_bitReg b r, exec_bitReg b r s⟩, ⟨encode_bitAtHl b, exec_bitAtHl b s⟩,
    ⟨encode_resReg b r, _, fun _ => bitOf_resBit _ b.val, exec_resReg b r s⟩,
    ⟨encode_resAtHl b, _, fun _ => bitOf_resBit _ b.val, exec_resAtHl b s⟩,
    ⟨encode_setReg b r, _, fun _ => bitOf_setBit _ b.val, exec_setReg b r s⟩,
    ⟨encode_setAtHl b, _, fun _ => bitOf_setBit _ b.val, exec_setAtHl b s⟩⟩

end Machine

end Sys2Proof
end

section
/-!
PROOFS. Control transfer (R260 to R270): the bytes and the meaning of each family, the meaning of the four conditions,
and the two outcomes of a conditional form.
-/

namespace Sys2Proof.Machine

section
variable (cc : Cond) (nn : Word) (e : Byte) (y : Fin 8) (s : State)

/-! ## The families: bytes and meaning -/

theorem encode_jpCond : encode (.jpCond cc nn) = [opcodeByte 3 cc.code 2, lo8 nn, hi8 nn] := by
  cases cc <;> rfl

theorem exec_jpCond : exec (.jpCond cc nn) s = jumpIf cc nn s := by
  cases cc <;> rfl

theorem encode_jrCond : encode (.jrCond cc e) = [opcodeByte 0 (cc.code + 4) 0, e] := by
  cases cc <;> rfl

theorem exec_jrCond : exec (.jrCond cc e) s = jumpRelIf cc e s := by
  cases cc <;> rfl

theorem encode_callCond : encode (.callCond cc nn) = [opcodeByte 3 cc.code 4, lo8 nn, hi8 nn] := by
  cases cc <;> rfl

theorem exec_callCond : exec (.callCond cc nn) s = callIf cc nn s := by
  cases cc <;> rfl

theorem encode_retCond : encode (.retCond cc) = [opcodeByte 3 cc.code 0] := by
  cases cc <;> rfl

theorem exec_retCond : exec (.retCond cc) s = retIf cc s := by
  cases cc <;> rfl

theorem encode_rst : encode (.rst y) = [opcodeByte 3 y.val 7] := by
  fin_cases y <;> rfl

theorem exec_rst : exec (.rst y) s = call (BitVec.ofNat 16 (8 * y.val)) 16 s := by
  fin_cases y <;> rfl

/-! ## The conditions -/

/-- The four conditions read `Zf` and `Cf` (R107). -/
theorem State.cond_iff : s.cond cc = true ↔
    match cc with
    | .nz => s.regs.flags.z = false
    | .z => s.regs.flags.z = true
    | .nc => s.regs.flags.c = false
    | .c => s.regs.flags.c = true := by
  cases cc
  case nz | nc => exact iff_of_eq (Bool.not_eq_true' _)
  case z | c => exact Iff.rfl

end

/-- The two outcomes of a form that asks whether the condition holds. -/
theorem taken_and_notTaken {s : State} {cc : Cond} {holds : Prop} (h : s.cond cc = true ↔ holds)
    (taken other : Result) :
    (holds → (if s.cond cc then taken else other) = taken) ∧
    (¬ holds → (if s.cond cc then taken else other) = other) :=
  ⟨fun hcc => if_pos (h.mpr hcc), fun hcc => if_neg (mt h.mp hcc)⟩

/-! ## The statements -/

/-- Settles O16: the conditional forms by their families and the two outcomes of the condition; the three forms of one
row each are `jump` itself. -/
theorem jumpResults : Obligations.JumpResults := by
  unfold Obligations.JumpResults
  intro s cc nn e
  have hcond := State.cond_iff cc s
  rw [exec_jpCond, exec_jrCond]
  exact ⟨⟨rfl, rfl⟩, ⟨encode_jpCond cc nn, taken_and_notTaken hcond (jump nn 16 s) (finish 12 s)⟩, ⟨rfl, rfl⟩,
    ⟨rfl, rfl⟩, ⟨encode_jrCond cc e, taken_and_notTaken hcond (jumpRel e s) (finish 8 s)⟩⟩

/-- Settles O17: `RST` and the conditional forms by their families, the three forms of one row each by `call`, `popPc`
and `retInterrupt`. -/
theorem callAndReturnResults : Obligations.CallAndReturnResults := by
  unfold Obligations.CallAndReturnResults
  intro s cc nn y
  have hcond := State.cond_iff cc s
  rw [exec_callCond, exec_retCond]
  exact ⟨⟨rfl, rfl⟩, ⟨encode_callCond cc nn, taken_and_notTaken hcond (call nn 24 s) (finish 12 s)⟩, ⟨rfl, rfl⟩,
    ⟨encode_retCond cc, taken_and_notTaken hcond (popPc 20 s) (finish 8 s)⟩, ⟨encode_rst y, exec_rst y s⟩, ⟨rfl, rfl⟩⟩

end Sys2Proof.Machine
end

section
/-!
PROOFS. The system instructions and the illegal bytes (R280 to R284, R286): what each shared operation leaves behind.
-/

namespace Sys2Proof.Machine

section
variable (s : State)

/-- Only the run state and the cycles change: `IME` stays as it was (R281, R282). -/
theorem enterRun_eq (r : RunState) : enterRun r s = .next { s with runState := r, cycles := 4 } := rfl

/-- `IME` is written at once, with no delay for `EI` (R283, R284). -/
theorem setIme_eq (b : Bool) : setIme b s = .next { s with ime := b, cycles := 4 } := rfl

variable {s}

/-- The first fatal condition is recorded (R37). -/
theorem raiseFatal_of_none (h : s.fatal = none) (kind : FatalKind) (a : Word) (op : Byte) :
    raiseFatal kind a op s = { s with fatal := some { kind := kind, address := a, opcode := op } } := by
  simp only [raiseFatal, h]

/-- With no record held, an unknown opcode leaves its record and no cycles (R286). -/
theorem unknownOpcode_of_none (h : s.fatal = none) (op : Byte) :
    unknownOpcode op s = .next { s with
      fatal := some { kind := .unknownOpcode, address := s.regs.pc - 1, opcode := op }, cycles := 0 } := by
  rw [unknownOpcode, raiseFatal_of_none h, finish]

end

/-! ## The statements -/

/-- Settles O18: `HALT` and `STOP` by `enterRun`, `DI` and `EI` by `setIme`; `NOP` only counts its cycles. -/
theorem systemResults : Obligations.SystemResults := by
  unfold Obligations.SystemResults
  exact fun s _ => ⟨⟨rfl, rfl⟩, ⟨rfl, enterRun_eq s .halted⟩, ⟨rfl, enterRun_eq s .stopped⟩,
    ⟨rfl, setIme_eq s false⟩, ⟨rfl, setIme_eq s true⟩⟩

/-- Settles O20: the meaning of every illegal byte is `unknownOpcode`. -/
theorem illegalByteIsFatal : Obligations.IllegalByteIsFatal := by
  unfold Obligations.IllegalByteIsFatal
  exact fun _ op _ hnone => ⟨rfl, unknownOpcode_of_none hnone op⟩

end Sys2Proof.Machine
end

section
/-!
PROOFS. The PPU's tick (R290, R299, R301): the end of each mode as one tick, ticks that add up, and a visible line.
-/

namespace Sys2Proof.Machine

/-! ## The accumulator -/

/-- The state with another accumulator: what `chargeMode` and the top of the tick change. -/
def State.withAcc (n : Nat) (s : State) : State := { s with ppu.acc := n }

section
variable (s : State) (n : Nat)

@[simp] theorem State.withAcc_acc : (s.withAcc n).ppu.acc = n := rfl
@[simp] theorem State.withAcc_mode : (s.withAcc n).ppu.mode = s.ppu.mode := rfl
@[simp] theorem State.withAcc_ly : (s.withAcc n).ppu.ly = s.ppu.ly := rfl
@[simp] theorem State.withAcc_io : (s.withAcc n).io = s.io := rfl
@[simp] theorem State.withAcc_withAcc (m : Nat) : (s.withAcc n).withAcc m = s.withAcc m := rfl

/-- A line's pixels depend on neither the mode nor the accumulator. -/
theorem State.drawLine_clock (m : PpuMode) (L : Nat) :
    ({ s with ppu.mode := m, ppu.acc := n } : State).drawLine L =
      { s.drawLine L with ppu.mode := m, ppu.acc := n } := rfl

theorem endPixelTransfer_eq :
    endPixelTransfer s = { s.decodeTiles.drawLine s.ppu.ly with ppu.mode := .hBlank } :=
  State.drawLine_clock s.decodeTiles s.ppu.acc .hBlank s.ppu.ly

theorem chargeMode_eq : chargeMode s = s.withAcc (s.ppu.acc - s.ppu.mode.threshold) := rfl

theorem ppuTick_eq_ppuRun {s : State} (c : Nat) (hon : bitOf s.io.lcdc 7 = true) :
    ppuTick c s = ppuRun (s.withAcc (s.ppu.acc + c)) := ppuTick_on c hon

/-! ## The end of each mode -/

variable {s}

theorem endMode_oamScan (h : s.ppu.mode = .oamScan) : endMode s = endOamScan s := by rw [endMode, h]

theorem endMode_pixelTransfer (h : s.ppu.mode = .pixelTransfer) : endMode s = endPixelTransfer s := by rw [endMode, h]

theorem endMode_hBlank (h : s.ppu.mode = .hBlank) (hly : s.ppu.ly ≠ 143) :
    endMode s = beginLine (s.ppu.ly + 1) s := by
  rw [endMode, h]; exact if_neg (by omega)

theorem endMode_hBlank_last (h : s.ppu.mode = .hBlank) (hly : s.ppu.ly = 143) : endMode s = beginVBlank s := by
  rw [endMode, h]; exact if_pos (by omega)

theorem endMode_vBlank (h : s.ppu.mode = .vBlank) (hly : s.ppu.ly + 1 ≠ 144 + s.cfg.vblankLines) :
    endMode s = { s with ppu.ly := s.ppu.ly + 1 } := by
  rw [endMode, h]; exact if_neg hly

theorem endMode_vBlank_last (h : s.ppu.mode = .vBlank) (hly : s.ppu.ly + 1 = 144 + s.cfg.vblankLines) :
    endMode s = beginLine 0 s := by
  rw [endMode, h]; exact if_pos hly

@[simp] theorem endMode_io (s : State) : (endMode s).io = s.io := by rw [(endMode_frame s).2.1]

/-- No mode's end reads the accumulator. -/
theorem endMode_withAcc (s : State) (n : Nat) : endMode (s.withAcc n) = (endMode s).withAcc n := by
  cases hm : s.ppu.mode with
  | oamScan => rw [endMode_oamScan hm, endMode_oamScan (s := s.withAcc n) hm]; rfl
  | pixelTransfer => rw [endMode_pixelTransfer hm, endMode_pixelTransfer (s := s.withAcc n) hm]; rfl
  | hBlank =>
    by_cases hly : s.ppu.ly = 143
    · rw [endMode_hBlank_last hm hly, endMode_hBlank_last (s := s.withAcc n) hm hly]; rfl
    · rw [endMode_hBlank hm hly, endMode_hBlank (s := s.withAcc n) hm hly]; rfl
  | vBlank =>
    by_cases hly : s.ppu.ly + 1 = 144 + s.cfg.vblankLines
    · rw [endMode_vBlank_last hm hly, endMode_vBlank_last (s := s.withAcc n) hm hly]; rfl
    · rw [endMode_vBlank hm hly, endMode_vBlank (s := s.withAcc n) hm hly]; rfl

/-! ## One transition of the tick -/

variable {c : Nat}

/-- Below the threshold the tick only accumulates (R299). -/
theorem ppuTick_below (hon : bitOf s.io.lcdc 7 = true) (h : s.ppu.acc + c < s.ppu.mode.threshold) :
    ppuTick c s = s.withAcc (s.ppu.acc + c) := by
  rw [ppuTick_eq_ppuRun c hon]
  exact ppuRun_exit h

/-- At the threshold of mode `m` the tick is the mode's end, the remainder kept, and the rest of the loop
(R299, R301). -/
theorem ppuTick_at {m : PpuMode} {n : Nat} (hon : bitOf s.io.lcdc 7 = true) (hm : s.ppu.mode = m)
    (h : s.ppu.acc + c = m.threshold + n) : ppuTick c s = ppuTick 0 ((endMode s).withAcc n) := by
  subst hm
  rw [ppuTick_eq_ppuRun c hon, ppuTick_eq_ppuRun 0 (by simpa using hon), h,
    ppuRun_step (s := s.withAcc _) (Nat.le_add_right _ n), chargeMode_eq, endMode_withAcc, endMode_withAcc,
    State.withAcc_acc, State.withAcc_mode, Nat.add_sub_cancel_left]
  rfl

/-! ## Ticks add up -/

/-- Cycles that arrive after the loop's exit count as those that were there before it. -/
theorem ppuRun_withAcc (d : Nat) (s : State) :
    ppuRun ((ppuRun s).withAcc ((ppuRun s).ppu.acc + d)) = ppuRun (s.withAcc (s.ppu.acc + d)) := by
  refine ppuRun_induction (P := fun s t => ppuRun (t.withAcc (t.ppu.acc + d)) = ppuRun (s.withAcc (s.ppu.acc + d)))
    (fun _ _ => rfl) (fun s hge ih => ?_) s
  rw [ih, endMode_chargeMode_acc, ppuRun_step (s := s.withAcc _) (Nat.le_add_right_of_le hge), chargeMode_eq,
    chargeMode_eq, endMode_withAcc, endMode_withAcc, endMode_withAcc, State.withAcc_acc, State.withAcc_mode,
    State.withAcc_withAcc, State.withAcc_withAcc, Nat.sub_add_comm hge]

theorem ppuTick_ppuTick (c d : Nat) (s : State) : ppuTick d (ppuTick c s) = ppuTick (c + d) s := by
  cases h : bitOf s.io.lcdc 7
  · rw [ppuTick_off d (by rw [ppuTick_io, h]), ppuTick_off c h, ppuTick_off (c + d) h]
    rfl
  · rw [ppuTick_eq_ppuRun d (by rw [ppuTick_io, h]), ppuTick_eq_ppuRun c h, ppuTick_eq_ppuRun (c + d) h,
      ppuRun_withAcc, State.withAcc_withAcc, State.withAcc_acc, Nat.add_assoc]

theorem foldl_ppuTick (c : Nat) (ticks : List Nat) (s : State) :
    (c :: ticks).foldl (fun u c => ppuTick c u) s = ppuTick (c :: ticks).sum s := by
  induction ticks generalizing c s with
  | nil => rfl
  | cons d ticks ih => rw [List.foldl_cons, ih, ppuTick_ppuTick, ← List.sum_cons]

/-! ## A visible line -/

/-- 456 cycles from the start of a line: the line is drawn, and HBlank ends with an empty accumulator. -/
theorem ppuTick_line (hon : bitOf s.io.lcdc 7 = true) (hm : s.ppu.mode = .oamScan) (hacc : s.ppu.acc = 0) :
    ppuTick 456 s = (endMode (endPixelTransfer s)).withAcc 0 := by
  have hthreshold := (endMode (endPixelTransfer s)).ppu.mode.threshold_ge
  calc
    ppuTick 456 s = ppuTick 0 ((endOamScan s).withAcc 376) := by
      rw [ppuTick_at (n := 376) hon hm (by rw [hacc]; rfl), endMode_oamScan hm]
    _ = ppuTick 0 ((endPixelTransfer s).withAcc 204) := by
      rw [ppuTick_at (s := (endOamScan s).withAcc 376) (m := .pixelTransfer) (n := 204) hon rfl rfl,
        endMode_withAcc, endMode_pixelTransfer rfl]
      rfl
    _ = ppuTick 0 ((endMode (endPixelTransfer s)).withAcc 0) := by
      rw [ppuTick_at (s := (endPixelTransfer s).withAcc 204) (m := .hBlank) (n := 0) hon rfl rfl, endMode_withAcc]
      rfl
    _ = (endMode (endPixelTransfer s)).withAcc 0 :=
      ppuTick_below (s := (endMode (endPixelTransfer s)).withAcc 0)
        (by rw [State.withAcc_io, endMode_io]; exact hon) (by simp only [State.withAcc_acc, State.withAcc_mode]; omega)

end

/-! ## The statements -/

/-- Settles O38 by `ppuTick_only`, which says a little more of `frameReady`. -/
theorem ppuWritesOnlyItsState : Obligations.PpuWritesOnlyItsState := by
  unfold Obligations.PpuWritesOnlyItsState
  intro s c
  obtain ⟨hframe, hrequest⟩ := ppuTick_only c s
  exact ⟨hframe, hrequest.imp_left And.left⟩

/-- Settles O39: the held state is `ppuHold`. -/
theorem ppuHeldWhileDisabled : Obligations.PpuHeldWhileDisabled := by
  unfold Obligations.PpuHeldWhileDisabled
  exact fun _ c hoff => ppuTick_off c hoff

/-- Settles O40: each row is `ppuTick_at` with the end of its mode. -/
theorem ppuTransitionTable : Obligations.PpuTransitionTable := by
  unfold Obligations.PpuTransitionTable
  intro s c hon acc ly
  refine ⟨ppuTick_below hon, ?_, ?_, ?_, ?_, ?_, ?_⟩
  · intro hm h
    rw [ppuTick_at hon hm (Nat.add_sub_of_le h).symm, endMode_oamScan hm]; rfl
  · intro hm h
    rw [ppuTick_at hon hm (Nat.add_sub_of_le h).symm, endMode_pixelTransfer hm, endPixelTransfer_eq]
    exact congrArg (ppuTick 0) (State.drawLine_clock s.decodeTiles (acc - 172) .hBlank ly).symm
  · intro hm h hly
    rw [ppuTick_at hon hm (Nat.add_sub_of_le h).symm, endMode_hBlank hm hly]; rfl
  · intro hm h hly
    rw [ppuTick_at hon hm (Nat.add_sub_of_le h).symm, endMode_hBlank_last hm hly]; rfl
  · intro hm h hly
    rw [ppuTick_at hon hm (Nat.add_sub_of_le h).symm, endMode_vBlank hm hly]; rfl
  · intro hm h hly
    rw [ppuTick_at hon hm (Nat.add_sub_of_le h).symm, endMode_vBlank_last hm hly]; rfl

/-- Settles O41 by `ppuTick_ppuTick`: with the display enabled the second loop goes on where the first one exits. -/
theorem ppuTicksAdd : Obligations.PpuTicksAdd := by
  unfold Obligations.PpuTicksAdd
  exact fun s c d => ppuTick_ppuTick c d s

/-- Settles O42: the ticks are one tick of 456 cycles, and the line is drawn before HBlank ends. -/
theorem lineTakes456Cycles : Obligations.LineTakes456Cycles := by
  unfold Obligations.LineTakes456Cycles
  intro s ticks hon hm hacc hly hsum
  obtain ⟨c, cs, rfl⟩ : ∃ c cs, ticks = c :: cs := List.exists_cons_of_ne_nil (by rintro rfl; cases hsum)
  rw [foldl_ppuTick, hsum, ppuTick_line hon hm hacc]
  have hfb : (endPixelTransfer s).ppu.fb = s.ppu.fb.set s.ppu.ly (s.decodeTiles.linePixels s.ppu.ly) := by
    rw [endPixelTransfer_eq]; rfl
  intro t
  have hend : t.ppu.ly = s.ppu.ly + 1 ∧ t.ppu.mode = (if s.ppu.ly = 143 then .vBlank else .oamScan) ∧
      t.ppu.fb = (endPixelTransfer s).ppu.fb := by
    by_cases h : s.ppu.ly = 143
    · rw [if_pos h, h]
      simp only [t, endMode_hBlank_last (s := endPixelTransfer s) rfl h]
      exact ⟨rfl, rfl, rfl⟩
    · rw [if_neg h]
      simp only [t, endMode_hBlank (s := endPixelTransfer s) rfl h]
      exact ⟨rfl, rfl, rfl⟩
  obtain ⟨hline, hmode, hframe⟩ := hend
  rw [hline, hmode, hframe, hfb]
  exact ⟨rfl, rfl, rfl, rfl, fun row hrow => List.getElem?_set_ne hrow.symm⟩

end Sys2Proof.Machine
end

section
/-!
PROOFS. The PPU as a clock (R300, R315): the cycles since the start of the frame, which every tick moves on by its
cycles modulo the frame, and the one entry of VBlank in a frame.
-/

namespace Sys2Proof.Machine

/-! ## The position in the frame -/

/-- The cycles of a line before the mode begins (R301); a line of VBlank is one mode. -/
def PpuMode.offset : PpuMode → Nat
  | .oamScan => 0
  | .pixelTransfer => 80
  | .hBlank => 252
  | .vBlank => 0

/-- The cycles from the start of the frame to the start of the current mode. -/
def State.modeStart (s : State) : Nat := 456 * s.ppu.ly + s.ppu.mode.offset

/-- The cycles since the start of the frame. -/
def State.framePos (s : State) : Nat := s.modeStart + s.ppu.acc

/-- The cycles of a frame: the visible lines and VBlank (R300). -/
def State.frameCycles (s : State) : Nat := 456 * 144 + 456 * s.cfg.vblankLines

/-- The mode fits the line (R297): VBlank, of a line or more, from line 144 on. -/
structure State.InFrame (s : State) : Prop where
  lines : 1 ≤ s.cfg.vblankLines
  line : s.ppu.ly < 144 + s.cfg.vblankLines
  vblank : s.ppu.mode = .vBlank ↔ 144 ≤ s.ppu.ly

section
variable (s : State) (n : Nat)

@[simp] theorem State.withAcc_frameReady : (s.withAcc n).frameReady = s.frameReady := rfl
@[simp] theorem State.withAcc_framePos : (s.withAcc n).framePos = s.modeStart + n := rfl
@[simp] theorem State.withAcc_frameCycles : (s.withAcc n).frameCycles = s.frameCycles := rfl

theorem State.InFrame.withAcc {s : State} (h : s.InFrame) (n : Nat) : (s.withAcc n).InFrame :=
  ⟨h.lines, h.line, h.vblank⟩

end

/-- The mode ends within the line. -/
theorem State.modeStart_add_threshold (s : State) :
    456 * s.ppu.ly ≤ s.modeStart ∧ s.modeStart + s.ppu.mode.threshold ≤ 456 * (s.ppu.ly + 1) := by
  unfold State.modeStart
  cases s.ppu.mode <;> simp [PpuMode.offset, PpuMode.threshold] <;> omega

/-! ## What moves the clock -/

/-- What a mode's end does to the clock (R301): the mode, the line counter and the frame-ready signal. -/
theorem endMode_clock (s : State) :
    let u := endMode s
    (s.ppu.mode = .oamScan ∧ u.ppu.mode = .pixelTransfer ∧ u.ppu.ly = s.ppu.ly ∧ u.frameReady = s.frameReady) ∨
    (s.ppu.mode = .pixelTransfer ∧ u.ppu.mode = .hBlank ∧ u.ppu.ly = s.ppu.ly ∧ u.frameReady = s.frameReady) ∨
    (s.ppu.mode = .hBlank ∧ s.ppu.ly ≠ 143 ∧
      u.ppu.mode = .oamScan ∧ u.ppu.ly = s.ppu.ly + 1 ∧ u.frameReady = s.frameReady) ∨
    (s.ppu.mode = .hBlank ∧ s.ppu.ly = 143 ∧ u.ppu.mode = .vBlank ∧ u.ppu.ly = 144 ∧ u.frameReady = true) ∨
    (s.ppu.mode = .vBlank ∧ s.ppu.ly + 1 ≠ 144 + s.cfg.vblankLines ∧
      u.ppu.mode = .vBlank ∧ u.ppu.ly = s.ppu.ly + 1 ∧ u.frameReady = s.frameReady) ∨
    (s.ppu.mode = .vBlank ∧ s.ppu.ly + 1 = 144 + s.cfg.vblankLines ∧
      u.ppu.mode = .oamScan ∧ u.ppu.ly = 0 ∧ u.frameReady = s.frameReady) := by
  cases hm : s.ppu.mode with
  | oamScan => simp [endMode_oamScan hm, endOamScan]
  | pixelTransfer => simp [endMode_pixelTransfer hm, endPixelTransfer, State.drawLine, State.decodeTiles]
  | hBlank =>
    by_cases hly : s.ppu.ly = 143
    · simp [endMode_hBlank_last hm hly, beginVBlank, hly]
    · simp [endMode_hBlank hm hly, beginLine, hly]
  | vBlank =>
    by_cases hly : s.ppu.ly + 1 = 144 + s.cfg.vblankLines
    · simp [endMode_vBlank_last hm hly, beginLine, hly]
    · simp [endMode_vBlank hm hly, hm, hly]

/-- A mode's end stands where the next mode starts: the mode's cycles on, or at the start of the next frame. It raises
the frame-ready signal where the line counter enters VBlank. -/
structure ModeEnded (s u : State) : Prop where
  inFrame : u.InFrame
  frameCycles : u.frameCycles = s.frameCycles
  start : (u.modeStart = s.modeStart + s.ppu.mode.threshold ∧ s.ppu.ly ≤ u.ppu.ly) ∨
    (u.modeStart = 0 ∧ s.modeStart + s.ppu.mode.threshold = s.frameCycles ∧ 144 ≤ s.ppu.ly ∧ u.ppu.ly = 0)
  frameReady : u.frameReady = true ↔ s.frameReady = true ∨ (s.ppu.ly < 144 ∧ 144 ≤ u.ppu.ly)

theorem endMode_ended {s : State} (h : s.InFrame) : ModeEnded s (endMode s) := by
  obtain ⟨hlines, hline, hvblank⟩ := h
  have hcfg : (endMode s).cfg = s.cfg := by rw [(endMode_frame s).2.1]
  rcases endMode_clock s with ⟨hm, hm', hly, hready⟩ | ⟨hm, hm', hly, hready⟩ | ⟨hm, hne, hm', hly, hready⟩ |
    ⟨hm, hlast, hm', hly, hready⟩ | ⟨hm, hne, hm', hly, hready⟩ | ⟨hm, hlast, hm', hly, hready⟩
  all_goals exact
    { inFrame := ⟨hcfg ▸ hlines, by grind, by grind⟩
      frameCycles := by rw [State.frameCycles, hcfg, State.frameCycles]
      start := by grind [State.modeStart, State.frameCycles, PpuMode.offset, PpuMode.threshold]
      frameReady := by grind }

/-- Where a tick of `c` cycles ends that reaches the end of the frame at most: `c` cycles on, or at the start of the
next frame. It raises the frame-ready signal if it starts on a visible line and reaches VBlank. -/
structure TickEnded (c : Nat) (s t : State) : Prop where
  inFrame : t.InFrame
  frameCycles : t.frameCycles = s.frameCycles
  pos : t.framePos = s.framePos + c ∨ (s.framePos + c = s.frameCycles ∧ t.framePos = 0)
  frameReady : t.frameReady = true ↔ s.frameReady = true ∨ (s.ppu.ly < 144 ∧ 456 * 144 ≤ s.framePos + c)

theorem ppuRun_ended {s : State} (h : s.InFrame) (hpos : s.framePos ≤ s.frameCycles) : TickEnded 0 s (ppuRun s) := by
  refine ppuRun_induction (P := fun s t => s.InFrame → s.framePos ≤ s.frameCycles → TickEnded 0 s t)
    (fun s hlt h _ => ⟨h, rfl, .inl rfl, ?_⟩) (fun s hge ih h hpos => ?_) s h hpos
  · obtain ⟨_, hline⟩ := s.modeStart_add_threshold
    have hbefore : ¬ (s.ppu.ly < 144 ∧ 456 * 144 ≤ s.framePos) := by unfold State.framePos; omega
    exact (or_iff_left hbefore).symm
  · obtain ⟨hframe, hcycles, hstart, hready⟩ := endMode_ended h
    rw [show endMode (chargeMode s) = (endMode s).withAcc (s.ppu.acc - s.ppu.mode.threshold) from endMode_withAcc s _]
      at ih ⊢
    generalize endMode s = u at *
    have hpos' : u.modeStart + (s.ppu.acc - s.ppu.mode.threshold) ≤ u.frameCycles := by
      unfold State.framePos at hpos; omega
    have hvblank : 144 ≤ u.ppu.ly → 456 * 144 ≤ u.modeStart := by unfold State.modeStart; omega
    have hvisible : 456 * 144 ≤ s.frameCycles := Nat.le_add_right _ _
    obtain ⟨htframe, htcycles, htpos, htready⟩ := ih (hframe.withAcc _) hpos'
    simp only [State.withAcc_framePos, State.withAcc_frameCycles, State.withAcc_frameReady, State.withAcc_ly,
      Nat.add_zero] at htcycles htpos htready
    have hspos : s.framePos = s.modeStart + s.ppu.acc := rfl
    refine ⟨htframe, htcycles.trans hcycles, by omega, ?_⟩
    rw [htready, hready, or_assoc]
    exact or_congr_right (by omega)

theorem ppuTick_ended {s : State} {c : Nat} (hon : bitOf s.io.lcdc 7 = true) (h : s.InFrame)
    (hpos : s.framePos + c ≤ s.frameCycles) : TickEnded c s (ppuTick c s) := by
  rw [ppuTick_eq_ppuRun c hon]
  have hsum : (s.withAcc (s.ppu.acc + c)).framePos = s.framePos + c := (Nat.add_assoc ..).symm
  have hrun := ppuRun_ended (h.withAcc (s.ppu.acc + c)) (by rw [hsum]; exact hpos)
  exact ⟨hrun.inFrame, hrun.frameCycles, hsum ▸ hrun.pos, hsum ▸ hrun.frameReady⟩

/-! ## The ticks of a frame -/

/-- The frame-ready signal cleared, as at the top of an iteration (R346). -/
def State.clearReady (s : State) : State := { s with frameReady := false }

/-- One tick of the frame, the frame-ready signal cleared before it and counted after it. -/
def countFrame (p : State × Nat) (c : Nat) : State × Nat :=
  (ppuTick c p.1.clearReady, p.2 + if (ppuTick c p.1.clearReady).frameReady then 1 else 0)

/-- A frame of `n` cycles after `e` of them, with the frame-ready signals counted so far. -/
structure FrameRun (n e : Nat) (s : State) (count : Nat) : Prop where
  on : bitOf s.io.lcdc 7 = true
  inFrame : s.InFrame
  frameCycles : s.frameCycles = n
  settled : s.ppu.acc < s.ppu.mode.threshold
  pos : s.framePos = e ∨ (e = n ∧ s.framePos = 0)
  count : count = if 456 * 144 ≤ e then 1 else 0
  request : 456 * 144 ≤ e → bitOf s.iflag 0 = true

theorem ppuTick_frameReady_request {s : State} {c : Nat} (hclear : s.frameReady = false)
    (h : (ppuTick c s).frameReady = true) : bitOf (ppuTick c s).iflag 0 = true := by
  rcases (ppuTick_only c s).2 with ⟨_, hready⟩ | ⟨hflag, _⟩
  · rw [hready, hclear] at h; cases h
  · rw [hflag, bitOf_or]; simp [bitOf]

theorem FrameRun.tick {n e c k : Nat} {s : State} (h : FrameRun n e s k) (hle : e + c ≤ n) :
    FrameRun n (e + c) (ppuTick c s.clearReady) (k + if (ppuTick c s.clearReady).frameReady then 1 else 0) := by
  obtain ⟨hon, hframe, hcycles, hsettled, hpos, hcount, hrequest⟩ := h
  have hvisible : 456 * 144 ≤ n := hcycles ▸ Nat.le_add_right _ _
  have hended : TickEnded c s.clearReady (ppuTick c s.clearReady) :=
    ppuTick_ended hon ⟨hframe.lines, hframe.line, hframe.vblank⟩ (by
      change s.framePos + c ≤ s.frameCycles
      omega)
  have hready : (ppuTick c s.clearReady).frameReady = true ↔ e < 456 * 144 ∧ 456 * 144 ≤ e + c := by
    rw [hended.frameReady, or_iff_right (show ¬ s.clearReady.frameReady = true from nofun)]
    obtain ⟨hlo, hhi⟩ := s.modeStart_add_threshold
    change s.ppu.ly < 144 ∧ 456 * 144 ≤ s.framePos + c ↔ _
    unfold State.framePos at hpos ⊢
    omega
  exact
    { on := by rw [ppuTick_io]; exact hon
      inFrame := hended.inFrame
      frameCycles := hended.frameCycles.trans hcycles
      settled := ppuTick_settled c s.clearReady
      pos := by
        have htpos := hended.pos
        change _ = s.framePos + c ∨ (s.framePos + c = s.frameCycles ∧ _) at htpos
        omega
      count := by
        simp only [hcount, hready]
        split_ifs <;> omega
      request := fun hreached => by
        by_cases he : 456 * 144 ≤ e
        · exact ppuTick_keeps_request c (hrequest he)
        · exact ppuTick_frameReady_request rfl (hready.2 ⟨by omega, hreached⟩) }

theorem FrameRun.foldl {n e : Nat} {p : State × Nat} (ticks : List Nat) (h : FrameRun n e p.1 p.2)
    (hle : e + ticks.sum ≤ n) :
    FrameRun n (e + ticks.sum) (ticks.foldl countFrame p).1 (ticks.foldl countFrame p).2 := by
  induction ticks generalizing e p with
  | nil => exact h
  | cons c ticks ih =>
    rw [List.sum_cons] at hle ⊢
    rw [← Nat.add_assoc]
    exact ih (h.tick (by omega)) (by omega)

/-- All the cycles of a frame lead back to its start. -/
theorem FrameRun.atStart {n k : Nat} {s : State} (h : FrameRun n n s k) :
    s.ppu.ly = 0 ∧ s.ppu.acc = 0 ∧ s.ppu.mode = .oamScan := by
  obtain ⟨_, hframe, hcycles, hsettled, hpos, _, _⟩ := h
  obtain ⟨hlo, hhi⟩ := s.modeStart_add_threshold
  have hline := hframe.line
  have hzero : s.modeStart + s.ppu.acc = 0 := by
    unfold State.frameCycles at hcycles
    unfold State.framePos at hpos
    omega
  refine ⟨by omega, by omega, ?_⟩
  cases hm : s.ppu.mode with
  | oamScan => rfl
  | pixelTransfer => simp [State.modeStart, hm, PpuMode.offset] at hzero
  | hBlank => simp [State.modeStart, hm, PpuMode.offset] at hzero
  | vBlank => have := hframe.vblank.1 hm; omega

/-- Settles O43: a frame's ticks, from none of its cycles to all of them. -/
theorem frameRaisesOneFrameReady : Obligations.FrameRaisesOneFrameReady := by
  unfold Obligations.FrameRaisesOneFrameReady
  intro s ticks hon hm hacc hly hlines hsum
  have hzero : s.framePos = 0 := by simp [State.framePos, State.modeStart, hm, hacc, hly, PpuMode.offset]
  have hstart : FrameRun s.frameCycles 0 s 0 :=
    { on := hon
      inFrame := ⟨hlines, by rw [hly]; omega, by simp [hm, hly]⟩
      frameCycles := rfl
      settled := by rw [hacc, hm]; decide
      pos := .inl hzero
      count := rfl
      request := nofun }
  have hend := FrameRun.foldl (p := (s, 0)) ticks hstart (by rw [hsum, State.frameCycles, Nat.zero_add])
  rw [Nat.zero_add, hsum] at hend
  obtain ⟨hline, hempty, hmode⟩ := hend.atStart
  exact ⟨hline, hempty, hmode, hend.count.trans (if_pos (by omega)), hend.request (by omega)⟩

end Sys2Proof.Machine
end

section
/-!
PROOFS. The picture (R303 to R310): the selection of the OAM scan, the two bit planes behind a cached tile, and the
pixels of a drawn line.
-/

namespace Sys2Proof.Machine

/-! ## The OAM scan -/

section
variable (s : State) (L : Nat)

/-- The sprites that meet the line, all of them, in table order: what the scan takes ten of. -/
def State.meeting : List Sprite := ((List.range 40).map s.oamEntry).filter fun sp => sp.onLine s.spriteHeight L

theorem State.oamSelect_eq_take : s.oamSelect L = (s.meeting L).take 10 := rfl

theorem Sprite.onLine_iff (sp : Sprite) (h L : Nat) :
    sp.onLine h L = true ↔ sp.y.toNat ≤ L + 16 ∧ L + 16 < sp.y.toNat + h := by
  rw [Sprite.onLine, Bool.and_eq_true, decide_eq_true_eq, decide_eq_true_eq]

theorem State.mem_meeting {sp : Sprite} :
    sp ∈ s.meeting L ↔ ∃ i < 40, s.oamEntry i = sp ∧ sp.onLine s.spriteHeight L = true := by
  simp only [State.meeting, List.mem_filter, List.mem_map, List.mem_range]
  exact ⟨fun ⟨⟨i, hi, heq⟩, hline⟩ => ⟨i, hi, heq, hline⟩, fun ⟨i, hi, heq, hline⟩ => ⟨⟨i, hi, heq⟩, hline⟩⟩

/-- A sprite the scan leaves out comes after ten that it selects. -/
theorem State.oamSelect_full {sp : Sprite} (hmem : sp ∈ s.meeting L) (hout : sp ∉ s.oamSelect L) :
    (s.oamSelect L).length = 10 ∧ ∀ q ∈ s.oamSelect L, q.index < sp.index := by
  have hdrop : sp ∈ (s.meeting L).drop 10 := by
    rw [← List.take_append_drop 10 (s.meeting L), List.mem_append] at hmem
    exact hmem.resolve_left hout
  have hsorted : (s.meeting L).Pairwise fun p q => p.index < q.index := by
    refine List.Pairwise.sublist List.filter_sublist ?_
    rw [← List.pairwise_map (f := Sprite.index) (R := (· < ·)), s.map_index_oamEntry]
    exact List.pairwise_lt_range
  rw [← List.take_append_drop 10 (s.meeting L), List.pairwise_append] at hsorted
  have hlength := List.length_pos_of_mem hdrop
  rw [List.length_drop] at hlength
  obtain ⟨_, _, hbefore⟩ := hsorted
  refine ⟨?_, fun q hq => hbefore q hq sp hdrop⟩
  rw [State.oamSelect_eq_take, List.length_take]
  omega

end

/-! ## Tiles -/

theorem tilePixel_toNat (lo hi : Byte) (c : Nat) :
    (tilePixel lo hi c).toNat = 2 * (if bitOf hi (7 - c) then 1 else 0) + (if bitOf lo (7 - c) then 1 else 0) := by
  unfold tilePixel
  cases bitOf hi (7 - c) <;> cases bitOf lo (7 - c) <;> rfl

theorem tilePixel_eq_zero {lo hi : Byte} {c : Nat} :
    tilePixel lo hi c = 0 ↔ bitOf lo (7 - c) = false ∧ bitOf hi (7 - c) = false := by
  unfold tilePixel
  cases bitOf hi (7 - c) <;> cases bitOf lo (7 - c) <;> decide

/-- A pixel of a cached tile is decoded from the two bytes of its row. -/
theorem tileColour_decodeTile (m : Memory) (addr : Nat → Nat) {t r c : Nat} (ht : t < 256) (hr : r < 8) (hc : c < 8) :
    tileColour ((List.range 256).map fun t => decodeTile m (addr t)) t r c =
      tilePixel (Memory.get m (addr t + 2 * r)) (Memory.get m (addr t + 2 * r + 1)) c := by
  simp [tileColour, decodeTile, List.getD_eq_getElem?_getD, ht, hr, hc]

theorem bgTileAddr_eq (lcdc t : Byte) :
    bgTileAddr lcdc t.toNat = if bitOf lcdc 4 then 0x8000 + 16 * t.toNat
      else if t.toNat < 128 then 0x9000 + 16 * t.toNat else 0x8000 + 16 * t.toNat := by
  have ht := t.isLt
  rw [bgTileAddr, BitVec.ofNat_toNat, BitVec.setWidth_eq, signed8, BitVec.toInt_eq_toNat_cond]
  split_ifs <;> omega

theorem shade_toNat (pal : Byte) (i : Colour) : (shade pal i).toNat = pal.toNat / 4 ^ i.toNat % 4 := by
  rw [shade, BitVec.toNat_setWidth, BitVec.toNat_ushiftRight, Nat.shiftRight_eq_div_pow, Nat.pow_mul]

/-! ## The background and the window -/

section
variable (s : State) {L X : Nat}

theorem State.mapColour_decodeTiles (highMap : Bool) (py px : Nat) :
    let row := bgTileAddr s.io.lcdc
      (Memory.get s.mem ((if highMap then 0x9C00 else 0x9800) + 32 * (py / 8) + px / 8)).toNat + 2 * (py % 8)
    s.decodeTiles.mapColour highMap py px =
      tilePixel (Memory.get s.mem row) (Memory.get s.mem (row + 1)) (px % 8) :=
  tileColour_decodeTile s.mem _ (BitVec.isLt _) (Nat.mod_lt _ (by decide)) (Nat.mod_lt _ (by decide))

variable {s}

theorem State.bgIndex_of_disabled (h : bitOf s.io.lcdc 0 = false) : s.bgIndex L X = 0 := by
  simp [State.bgIndex, h]

theorem State.bgIndex_of_covered (h : bitOf s.io.lcdc 0 = true)
    (hcovered : bitOf s.io.lcdc 5 = true ∧ s.io.wy.toNat ≤ L ∧ s.io.wx.toNat ≤ X + 7) :
    s.bgIndex L X = s.mapColour (bitOf s.io.lcdc 6) (L - s.io.wy.toNat) (X + 7 - s.io.wx.toNat) := by
  simp [State.bgIndex, State.windowCovers, h, hcovered]

theorem State.bgIndex_of_not_covered (h : bitOf s.io.lcdc 0 = true)
    (hcovered : ¬ (bitOf s.io.lcdc 5 = true ∧ s.io.wy.toNat ≤ L ∧ s.io.wx.toNat ≤ X + 7)) :
    s.bgIndex L X =
      s.mapColour (bitOf s.io.lcdc 3) ((L + s.io.scy.toNat) % 256) ((X + s.io.scx.toNat) % 256) := by
  have hwindow : s.windowCovers L X = false := by
    simpa [State.windowCovers, h, and_assoc] using hcovered
  simp [State.bgIndex, h, hwindow]

end

/-! ## Sprites -/

/-- The sprite's square of height `h` covers the pixel. -/
abbrev Sprite.covers (q : Sprite) (h L X : Nat) : Prop :=
  q.onLine h L = true ∧ q.x.toNat ≤ X + 8 ∧ X + 8 < q.x.toNat + 8

/-- The colour index that a row of a cached tile has at the sprite's pixel `p`, 0 leftmost on the screen. -/
def State.objColour (s : State) (q : Sprite) (t row p : Nat) : Colour :=
  tileColour s.ppu.objTiles t row (if bitOf q.attr 5 then 7 - p else p)

/-- The colour index that a sprite has at a pixel, 0 where it does not cover it: what `overlaySprite` puts there
(`overlaySprite_getD`). -/
def State.spriteColour (s : State) (L X : Nat) (q : Sprite) : Colour :=
  let tr := q.tileRow s.spriteHeight (L + 16 - q.y.toNat)
  if q.covers s.spriteHeight L X then s.objColour q tr.1 tr.2 (X + 8 - q.x.toNat) else 0

/-- The sprite's palette (R305). -/
def State.objPalette (s : State) (q : Sprite) : Byte := if bitOf q.attr 4 then s.io.obp1 else s.io.obp0

section
variable {s : State} {q : Sprite} {t row X : Nat} {line : List Colour}

theorem State.foldl_overlayPixel_length (n : Nat) :
    ((List.range n).foldl (s.overlayPixel q t row) line).length = line.length :=
  List.foldlRecOn (motive := fun l : List Colour => l.length = line.length) _ _ rfl fun _ hl _ _ =>
    (s.overlayPixel_length ..).trans hl

theorem State.foldl_overlaySprite_length (L : Nat) (qs : List Sprite) :
    (qs.foldl (s.overlaySprite L) line).length = line.length :=
  List.foldlRecOn (motive := fun l : List Colour => l.length = line.length) _ _ rfl fun _ hl _ _ =>
    (s.overlaySprite_length ..).trans hl

theorem State.spriteColour_of_covers {L : Nat} (h : q.covers s.spriteHeight L X) :
    s.spriteColour L X q = s.objColour q (q.tileRow s.spriteHeight (L + 16 - q.y.toNat)).1
      (q.tileRow s.spriteHeight (L + 16 - q.y.toNat)).2 (X + 8 - q.x.toNat) := if_pos h

theorem State.spriteColour_of_not_covers {L : Nat} (h : ¬ q.covers s.spriteHeight L X) : s.spriteColour L X q = 0 :=
  if_neg h

/-- One pixel of a sprite changes one pixel of the line, unless it is transparent (R310). -/
theorem State.overlayPixel_getD (hX : X < 160) (hline : line.length = 160) (p : Nat) :
    (s.overlayPixel q t row line p).getD X 0 =
      if q.x.toNat + p = X + 8 ∧ s.objColour q t row p ≠ 0 then shade (s.objPalette q) (s.objColour q t row p)
      else line.getD X 0 := by
  change List.getD (if 8 ≤ q.x.toNat + p ∧ q.x.toNat + p < 168 then
    if s.objColour q t row p = 0 then line
    else line.set (q.x.toNat + p - 8) (shade (s.objPalette q) (s.objColour q t row p)) else line) X 0 = _
  by_cases hp : q.x.toNat + p = X + 8
  · rw [if_pos (by omega)]
    by_cases hclear : s.objColour q t row p = 0
    · rw [if_pos hclear, if_neg fun h => h.2 hclear]
    · rw [if_neg hclear, if_pos ⟨hp, hclear⟩, hp, Nat.add_sub_cancel, List.getD_eq_getElem?_getD,
        List.getElem?_set_self (hline ▸ hX), Option.getD_some]
  · have hother : ¬ (q.x.toNat + p = X + 8 ∧ s.objColour q t row p ≠ 0) := fun h => hp h.1
    rw [if_neg hother]
    split_ifs
    · rfl
    · rw [List.getD_eq_getElem?_getD, List.getElem?_set_ne (by omega), ← List.getD_eq_getElem?_getD]
    · rfl

/-- The first `n` pixels of a sprite's row. -/
theorem State.foldl_overlayPixel_getD (hX : X < 160) (hline : line.length = 160) (n : Nat) :
    ((List.range n).foldl (s.overlayPixel q t row) line).getD X 0 =
      if (q.x.toNat ≤ X + 8 ∧ X + 8 < q.x.toNat + n) ∧ s.objColour q t row (X + 8 - q.x.toNat) ≠ 0 then
        shade (s.objPalette q) (s.objColour q t row (X + 8 - q.x.toNat))
      else line.getD X 0 := by
  induction n with
  | zero => exact (if_neg (by omega)).symm
  | succ n ih =>
    rw [List.range_succ, List.foldl_append, List.foldl_cons, List.foldl_nil,
      State.overlayPixel_getD hX ((State.foldl_overlayPixel_length n).trans hline), ih]
    by_cases hn : q.x.toNat + n = X + 8
    · have hbefore : ¬ ((q.x.toNat ≤ X + 8 ∧ X + 8 < q.x.toNat + n) ∧ s.objColour q t row n ≠ 0) := by omega
      rw [show X + 8 - q.x.toNat = n by omega, if_neg hbefore]
      exact if_congr (and_congr_left' (by omega)) rfl rfl
    · rw [if_neg fun h => hn h.1]
      exact if_congr (and_congr_left' (by omega)) rfl rfl

theorem State.overlaySprite_getD (hX : X < 160) (hline : line.length = 160) (L : Nat) :
    (s.overlaySprite L line q).getD X 0 =
      if s.spriteColour L X q = 0 then line.getD X 0 else shade (s.objPalette q) (s.spriteColour L X q) := by
  unfold State.overlaySprite
  by_cases hcovers : q.covers s.spriteHeight L X
  · rw [if_pos hcovers.1, State.foldl_overlayPixel_getD hX hline, State.spriteColour_of_covers hcovers]
    simp [hcovers.2]
  · rw [State.spriteColour_of_not_covers hcovers, if_pos rfl]
    split_ifs with hon
    · rw [State.foldl_overlayPixel_getD hX hline, if_neg fun h => hcovers ⟨hon, h.1⟩]
    · rfl

/-- Sprites that are transparent at a pixel leave it. -/
theorem State.foldl_overlaySprite_getD (hX : X < 160) (hline : line.length = 160) {L : Nat} {qs : List Sprite}
    (h : ∀ q ∈ qs, s.spriteColour L X q = 0) : (qs.foldl (s.overlaySprite L) line).getD X 0 = line.getD X 0 := by
  induction qs generalizing line with
  | nil => rfl
  | cons q qs ih =>
    rw [List.foldl_cons, ih ((s.overlaySprite_length ..).trans hline) fun p hp => h p (List.mem_cons_of_mem q hp),
      State.overlaySprite_getD hX hline, if_pos (h q List.mem_cons_self)]

end

/-! ## A sprite's colour index from `vram` -/

/-- The row of the sprite on line `L`, after the vertical flip (R310). -/
def Sprite.shownRow (q : Sprite) (h L : Nat) : Nat :=
  if bitOf q.attr 6 then h - 1 - (L + 16 - q.y.toNat) else L + 16 - q.y.toNat

/-- The tile that holds it: of two when the sprite is 16 high (R305). -/
def Sprite.shownTile (q : Sprite) (h L : Nat) : Nat :=
  if h = 16 then q.tile.toNat / 2 * 2 + q.shownRow h L / 8 else q.tile.toNat

/-- The address of the two bit planes of that row (R303). -/
def Sprite.rowAddr (q : Sprite) (h L : Nat) : Nat := 0x8000 + 16 * q.shownTile h L + 2 * (q.shownRow h L % 8)

/-- The bit of the planes that column `X` shows, after the horizontal flip (R310). -/
def Sprite.planeBit (q : Sprite) (X : Nat) : Nat :=
  if bitOf q.attr 5 then X + 8 - q.x.toNat else 7 - (X + 8 - q.x.toNat)

section
variable {s : State} {q : Sprite} {h L X : Nat}

theorem Sprite.shownRow_lt (hon : q.onLine h L = true) : q.shownRow h L < h := by
  obtain ⟨htop, hbottom⟩ := (q.onLine_iff h L).1 hon
  unfold Sprite.shownRow
  split_ifs <;> omega

theorem and_0xFE_toNat : ∀ b : Byte, (b &&& 0xFE).toNat = b.toNat / 2 * 2 := by decide

theorem Sprite.tileRow_eq (hh : h = 8 ∨ h = 16) (hon : q.onLine h L = true) :
    q.tileRow h (L + 16 - q.y.toNat) = (q.shownTile h L, q.shownRow h L % 8) := by
  have hrow := q.shownRow_lt hon
  change (if h = 16 then ((q.tile &&& 0xFE).toNat + (if q.shownRow h L ≥ 8 then 1 else 0), q.shownRow h L % 8)
    else (q.tile.toNat, q.shownRow h L)) = _
  unfold Sprite.shownTile
  rcases hh with rfl | rfl
  · rw [if_neg (by decide), if_neg (by decide), Nat.mod_eq_of_lt hrow]
  · have hhalf : (if q.shownRow 16 L ≥ 8 then 1 else 0) = q.shownRow 16 L / 8 := by split_ifs <;> omega
    rw [if_pos rfl, if_pos rfl, and_0xFE_toNat, hhalf]

theorem Sprite.shownTile_lt (hon : q.onLine h L = true) : q.shownTile h L < 256 := by
  have hrow := q.shownRow_lt hon
  have htile := q.tile.isLt
  unfold Sprite.shownTile
  split_ifs <;> omega

theorem State.spriteHeight_eq (s : State) : s.spriteHeight = 8 ∨ s.spriteHeight = 16 := by
  unfold State.spriteHeight
  split_ifs
  · exact .inr rfl
  · exact .inl rfl

/-- After the decode a sprite's colour index is made of the two bit planes in `vram`. -/
theorem State.spriteColour_decodeTiles (hcovers : q.covers s.spriteHeight L X) :
    s.decodeTiles.spriteColour L X q = tilePixel (Memory.get s.mem (q.rowAddr s.spriteHeight L))
      (Memory.get s.mem (q.rowAddr s.spriteHeight L + 1)) (7 - q.planeBit X) := by
  have hcolumn : (if bitOf q.attr 5 then 7 - (X + 8 - q.x.toNat) else X + 8 - q.x.toNat) = 7 - q.planeBit X := by
    unfold Sprite.planeBit
    split_ifs <;> omega
  rw [State.spriteColour_of_covers (s := s.decodeTiles) hcovers, State.objColour, hcolumn]
  change tileColour _ (q.tileRow s.spriteHeight (L + 16 - q.y.toNat)).1
    (q.tileRow s.spriteHeight (L + 16 - q.y.toNat)).2 _ = _
  rw [Sprite.tileRow_eq s.spriteHeight_eq hcovers.1]
  exact tileColour_decodeTile s.mem objTileAddr (q.shownTile_lt hcovers.1)
    (Nat.mod_lt _ (by decide)) (by omega)

theorem Sprite.seven_sub_planeBit (hcovers : q.covers h L X) : 7 - (7 - q.planeBit X) = q.planeBit X := by
  unfold Sprite.planeBit
  split_ifs <;> omega

theorem State.spriteColour_decodeTiles_eq_zero (hclear : q.covers s.spriteHeight L X →
      bitOf (Memory.get s.mem (q.rowAddr s.spriteHeight L)) (q.planeBit X) = false ∧
      bitOf (Memory.get s.mem (q.rowAddr s.spriteHeight L + 1)) (q.planeBit X) = false) :
    s.decodeTiles.spriteColour L X q = 0 := by
  by_cases hcovers : q.covers s.spriteHeight L X
  · rw [State.spriteColour_decodeTiles hcovers, tilePixel_eq_zero, Sprite.seven_sub_planeBit hcovers]
    exact hclear hcovers
  · exact State.spriteColour_of_not_covers (s := s.decodeTiles) hcovers

theorem State.spriteColour_decodeTiles_toNat :
    (s.decodeTiles.spriteColour L X q).toNat =
      if q.covers s.spriteHeight L X then
        2 * (if bitOf (Memory.get s.mem (q.rowAddr s.spriteHeight L + 1)) (q.planeBit X) then 1 else 0) +
          (if bitOf (Memory.get s.mem (q.rowAddr s.spriteHeight L)) (q.planeBit X) then 1 else 0)
      else 0 := by
  by_cases hcovers : q.covers s.spriteHeight L X
  · rw [if_pos hcovers, State.spriteColour_decodeTiles hcovers, tilePixel_toNat, Sprite.seven_sub_planeBit hcovers]
  · rw [if_neg hcovers, State.spriteColour_of_not_covers (s := s.decodeTiles) hcovers]; rfl

end

/-! ## The pixels of a line -/

section
variable {s : State} {L X : Nat}

/-- Where no selected sprite shows, the pixel is the background's or the window's. -/
theorem State.linePixels_getD_background (hX : X < 160)
    (h : bitOf s.io.lcdc 1 = true → ∀ q ∈ s.ppu.selected, s.spriteColour L X q = 0) :
    (s.linePixels L).getD X 0 = shade s.io.bgp (s.bgIndex L X) := by
  have hbackground : ((List.range 160).map fun x => shade s.io.bgp (s.bgIndex L x)).getD X 0 =
      shade s.io.bgp (s.bgIndex L X) := by simp [List.getD_eq_getElem?_getD, hX]
  unfold State.linePixels
  dsimp only
  split_ifs with hsprites
  · rw [State.foldl_overlaySprite_getD hX (by simp) (h hsprites), hbackground]
  · exact hbackground

/-- The last selected sprite that shows gives the pixel. -/
theorem State.linePixels_getD_sprite (hX : X < 160) (hsprites : bitOf s.io.lcdc 1 = true) {front back : List Sprite}
    {q : Sprite} (hselected : s.ppu.selected = front ++ q :: back) (hq : s.spriteColour L X q ≠ 0)
    (hback : ∀ p ∈ back, s.spriteColour L X p = 0) :
    (s.linePixels L).getD X 0 = shade (s.objPalette q) (s.spriteColour L X q) := by
  unfold State.linePixels
  rw [if_pos hsprites, hselected, List.foldl_append, List.foldl_cons]
  have hfront : (front.foldl (s.overlaySprite L)
    ((List.range 160).map fun x => shade s.io.bgp (s.bgIndex L x))).length = 160 := by
    rw [State.foldl_overlaySprite_length]; simp
  rw [State.foldl_overlaySprite_getD hX ((s.overlaySprite_length ..).trans hfront) hback,
    State.overlaySprite_getD hX hfront, if_neg hq]

end

/-! ## The statements -/

/-- Settles O44: no sprite shows at the pixel, and the index of the map's tile is decoded from `vram`. -/
theorem backgroundAndWindowPixels : Obligations.BackgroundAndWindowPixels := by
  unfold Obligations.BackgroundAndWindowPixels
  intro s L X hL hX vram pixel h transparent hclear covered t idx hoff hwindow hbackground
  have hsprites (hon : bitOf s.io.lcdc 1 = true) : ∀ q ∈ s.ppu.selected, s.decodeTiles.spriteColour L X q = 0 :=
    fun q hq => State.spriteColour_decodeTiles_eq_zero fun ⟨hline, hleft, hright⟩ =>
      have ⟨htop, hbottom⟩ := (q.onLine_iff _ _).1 hline
      hclear hon q hq htop hbottom hleft hright
  have hpixel (highMap : Bool) (py px : Nat) : pixel highMap py px = (s.decodeTiles.mapColour highMap py px).toNat := by
    rw [State.mapColour_decodeTiles, tilePixel_toNat, bgTileAddr_eq]
  have hidx : idx = (s.decodeTiles.bgIndex L X).toNat := by
    cases hon : bitOf s.io.lcdc 0
    · rw [State.bgIndex_of_disabled (s := s.decodeTiles) hon, hoff hon]; rfl
    · by_cases hcovered : covered
      · rw [State.bgIndex_of_covered (s := s.decodeTiles) hon hcovered, hwindow hon hcovered, hpixel]; rfl
      · rw [State.bgIndex_of_not_covered (s := s.decodeTiles) hon hcovered, hbackground hon hcovered, hpixel]; rfl
  refine ⟨?_, fun row hrow => List.getElem?_set_ne hrow.symm⟩
  have hrow : t.ppu.fb.getD L [] = s.decodeTiles.linePixels L := by
    rw [List.getD_eq_getElem?_getD]
    exact congrArg (Option.getD · []) (List.getElem?_set_self hL)
  rw [hrow, State.linePixels_getD_background hX hsprites, shade_toNat, hidx]
  rfl

/-- Settles O45: the statement's index is the sprite's colour index after the decode. -/
theorem lastOpaqueSpriteWins : Obligations.LastOpaqueSpriteWins := by
  unfold Obligations.LastOpaqueSpriteWins
  intro s L X front back sp hX hsprites hselected vram h index hopaque hback
  have hindex (q : Sprite) : index q = (s.decodeTiles.spriteColour L X q).toNat := by
    rw [State.spriteColour_decodeTiles_toNat]
    exact if_congr (by rw [Sprite.covers, Sprite.onLine_iff, and_assoc]; rfl) rfl rfl
  have hzero (q : Sprite) : index q = 0 ↔ s.decodeTiles.spriteColour L X q = 0 := by
    rw [hindex, ← BitVec.toNat_inj]; rfl
  rw [State.linePixels_getD_sprite (s := s.decodeTiles) hX hsprites hselected (mt (hzero sp).2 hopaque)
    fun q hq => (hzero q).1 (hback q hq), shade_toNat, ← hindex]
  rfl

/-- Settles O46: the scan takes ten of `State.meeting`, so what it leaves out comes after them. -/
theorem oamScanSelects : Obligations.OamScanSelects := by
  unfold Obligations.OamScanSelects
  intro s L h oam entry meets out
  have hentry (i : Nat) : entry i = s.oamEntry i := by simp [entry, oam, State.oamEntry, Nat.add_assoc]
  obtain ⟨hsorted, _⟩ := s.oamSelect_index L
  refine ⟨s.oamSelect_length L, hsorted, fun sp hsp => ?_, fun i hi hmeets => ?_⟩
  · obtain ⟨i, hi, rfl, hline⟩ := (s.mem_meeting L).1 (List.mem_of_mem_take hsp)
    exact ⟨hi, (Sprite.onLine_iff _ _ _).1 hline, (hentry i).symm⟩
  · have hmem : s.oamEntry i ∈ s.meeting L := (s.mem_meeting L).2 ⟨i, hi, rfl, (Sprite.onLine_iff _ _ _).2 hmeets⟩
    rw [hentry]
    exact or_iff_not_imp_left.2 fun hout => s.oamSelect_full L hmem hout

end Sys2Proof.Machine
end

section
/-!
PROOFS. The Processor's tick and the step by cases (R341 to R348): when a tick is idle, which of its three forms runs,
and the step that a tick's answer makes.
-/

namespace Sys2Proof.Machine

variable {s t u : State} {i : Instr}

/-! ## Idle ticks -/

theorem State.idleCycles_of_fatal (hf : s.fatal ≠ none) : s.idleCycles = some 0 := by
  rw [State.idleCycles, if_pos (Option.isSome_iff_ne_none.2 hf)]

theorem State.idleCycles_of_running (hf : s.fatal = none) (hr : s.runState = .running) : s.idleCycles = none := by
  simp [State.idleCycles, hf, hr]

theorem State.idleCycles_of_stopped (hf : s.fatal = none) (hr : s.runState = .stopped) :
    s.idleCycles = if s.input.anyPressed then none else some 0 := by
  simp [State.idleCycles, hf, hr]

theorem State.idleCycles_of_halted (hf : s.fatal = none) (hr : s.runState = .halted) :
    s.idleCycles = if s.pending = 0 then some 4 else none := by
  simp [State.idleCycles, hf, hr]

/-! ## The forms of a tick -/

theorem processorTick_idle {k : Nat} (h : s.idleCycles = some k) : processorTick s = .next { s with cycles := k } := by
  simp only [processorTick, h, finish]

theorem processorTick_service (h : s.idleCycles = none) (hime : s.ime = true) (hp : s.pending ≠ 0) :
    processorTick s = finish s.cfg.intServiceCycles (serviceInterrupt s.pending { s with runState := .running }) := by
  simp only [processorTick, h]
  exact if_pos ⟨hime, hp⟩

theorem processorTick_fetch (h : s.idleCycles = none) (hq : s.ime = false ∨ s.pending = 0) :
    processorTick s = fetchExecute { s with runState := .running } := by
  simp only [processorTick, h]
  exact if_neg fun ⟨hime, hp⟩ => hq.elim (fun h0 => by simp [h0] at hime) hp

/-- A tick that is not idle is the tick of the running machine (R342, R343). -/
theorem processorTick_wake (h : s.idleCycles = none) :
    processorTick s = processorTick { s with runState := .running } := by
  have hf : s.fatal = none := State.fatal_of_not_idle h
  have hrunning : ({ s with runState := .running } : State).idleCycles = none := State.idleCycles_of_running hf rfl
  simp only [processorTick, h, hrunning]

theorem State.setRunning_of_running (h : s.runState = .running) : { s with runState := .running } = s := by
  rw [← h]

/-! ## The fetch -/

/-- What `decode` reads from three bytes is what the fetch takes, with the length of its encoding (R100, R101). -/
theorem decodeAt_of_decode {b0 b1 b2 : Byte} {rest : List Byte} (h : decode [b0, b1, b2] = .ok (i, rest)) :
    decodeAt b0 b1 b2 = (i, (encode i).length) := by
  obtain ⟨_, _, hlen⟩ := decode_sound h
  rw [hlen, decodeAt]
  cases hp : primary b0 with
  | op j => cases (decode_op hp).symm.trans h; rfl
  | opByte f => cases (decode_opByte hp b1).symm.trans h; rfl
  | opWord f => cases (decode_opWord hp b1 b2).symm.trans h; rfl
  | page => cases (decode_page hp b1).symm.trans h; rfl

theorem State.fetchDecode_setRunning (s : State) :
    ({ s with runState := .running } : State).fetchDecode = s.fetchDecode := rfl

/-! ## The step -/

theorem step_of_ended (h : s.stopFlag = true) : step s = .fault .runEnded := by
  rw [step, iteration, if_pos h]

theorem step_of_tick (hstop : s.stopFlag = false) (hu : processorTick (beginIteration s) = .next u) :
    step s = .next (endIteration s.fatal (ppuTick u.cycles u)) := by
  simp only [step, iteration, hstop, hu, Bool.false_eq_true, if_false]

/-! ## The statements -/

/-- Settles O26: `exec_runs` for the instructions, and a step is made of total parts. -/
theorem stepIsTotal : Obligations.StepIsTotal := by
  unfold Obligations.StepIsTotal
  refine ⟨fun i s => ?_, fun s hstop => ?_, fun s => step_of_ended⟩
  · obtain ⟨t, ht, _⟩ := exec_runs i s
    exact ⟨t, ht⟩
  · obtain ⟨u, hu, _⟩ := processorTick_runs (beginIteration s)
    exact ⟨_, step_of_tick hstop hu⟩

/-- Settles O36: what `Kept` lists includes the state of the other agents and the parameters. -/
theorem instructionsLeaveOtherAgents : Obligations.InstructionsLeaveOtherAgents := by
  unfold Obligations.InstructionsLeaveOtherAgents
  intro i s t h
  obtain ⟨u, hu, hk⟩ := exec_runs i s
  cases hu.symm.trans h
  exact ⟨hk.ppu, hk.input, hk.hostQueue, hk.frameReady, hk.report, hk.stopFlag, hk.cfg⟩

/-- Settles O25: the tick fetches what `decode` reads at `pc`, and the step goes on from what it answers. -/
theorem stepRunsDecodedInstruction : Obligations.StepRunsDecodedInstruction := by
  unfold Obligations.StepRunsDecodedInstruction
  intro s i rest s0 pc hstop hf hr hq hdecode
  obtain ⟨t, ht, _⟩ := exec_runs i { s0 with regs.pc := pc + BitVec.ofNat 16 (encode i).length }
  have hfetch : s0.fetchDecode = (i, (encode i).length) := decodeAt_of_decode hdecode
  have htick : processorTick s0 = .next t := by
    rw [processorTick_fetch (State.idleCycles_of_running hf hr) hq, State.setRunning_of_running hr, fetchExecute, hfetch]
    exact ht
  exact ⟨t, ht, step_of_tick hstop htick⟩

/-- Settles O28: the idle ticks by `processorTick_idle`, the wake-ups by `processorTick_wake`. -/
theorem idleAndWakingTicks : Obligations.IdleAndWakingTicks := by
  unfold Obligations.IdleAndWakingTicks
  intro s
  refine ⟨fun hf => ?_, fun hf hr hi => ?_, fun hf hr hp => ?_, fun hf hr hi => ?_, fun hf hr hp => ?_⟩
  · exact processorTick_idle (State.idleCycles_of_fatal hf)
  · exact processorTick_idle (by simp [State.idleCycles_of_stopped hf hr, hi])
  · exact processorTick_idle ((State.idleCycles_of_halted hf hr).trans (if_pos hp))
  · exact processorTick_wake (by simp [State.idleCycles_of_stopped hf hr, hi])
  · exact processorTick_wake ((State.idleCycles_of_halted hf hr).trans (if_neg hp))

end Sys2Proof.Machine
end

section
/-!
PROOFS. The service of an interrupt (R363 to R367): the source it takes and the state it leaves.
-/

namespace Sys2Proof.Machine

/-- The first source of a pending set is the lowest of its five bits that is set (R367). -/
theorem firstSource_eq {p : Byte} {k : Nat} (hk : k < 5) (hset : bitOf p k = true)
    (hlow : ∀ j, j < k → bitOf p j = false) : firstSource p = k := by
  unfold firstSource
  interval_cases k <;> simp [hset, hlow]

/-- The pending set holds bits 4 to 0 of `IE & IF` (R363). -/
theorem State.bitOf_pending (s : State) {k : Nat} (hk : k < 5) : bitOf s.pending k = bitOf (s.ie &&& s.iflag) k := by
  have hmask : bitOf 0x1F k = true := by interval_cases k <;> rfl
  rw [State.pending, bitOf_and, hmask, Bool.and_true]

/-- The vectors stand 8 bytes apart (R365). -/
theorem vectorOf_eq (k : Nat) : vectorOf k = BitVec.ofNat 16 (0x0040 + 8 * k) := by
  simp [vectorOf, BitVec.ofNat_add, BitVec.ofNat_mul]

theorem bitMask_eq (k : Nat) : bitMask k = BitVec.ofNat 8 (2 ^ k) :=
  BitVec.eq_of_toNat_eq (by simp [bitMask, Nat.shiftLeft_eq])

/-- Settles O27: the service takes source `k` (`firstSource_eq`) and pushes `pc` as `push16` does. -/
theorem interruptService : Obligations.InterruptService := by
  unfold Obligations.InterruptService
  intro s k hk hf hr hime hset hlow sp
  have hbit : bitOf s.pending k = true := (s.bitOf_pending hk).trans hset
  have hsource : firstSource s.pending = k :=
    firstSource_eq hk hbit fun j hj => (s.bitOf_pending (hj.trans hk)).trans (hlow j hj)
  have hpending : s.pending ≠ 0 := fun h => by simp [h, bitOf] at hbit
  rw [processorTick_service (State.idleCycles_of_running hf hr) hime hpending, State.setRunning_of_running hr,
    serviceInterrupt, hsource, vectorOf_eq, bitMask_eq]
  rfl

end Sys2Proof.Machine
end

section
/-!
PROOFS. The fatal condition (R286, R349, R380): only an illegal byte writes the record, and the iteration that writes it
changes nothing else of the machine but `pc`.
-/

namespace Sys2Proof.Machine

variable {s t u : State} {i : Instr}

@[simp] theorem State.aluA_fatal (s : State) (op : AluOp) (v : Byte) : (s.aluA op v).fatal = s.fatal := rfl

@[simp] theorem beginIteration_regs (s : State) : (beginIteration s).regs = s.regs := by rw [beginIteration_only]
@[simp] theorem endIteration_regs (before : Option FatalRecord) (s : State) :
    (endIteration before s).regs = s.regs := rfl
@[simp] theorem endIteration_cycles (before : Option FatalRecord) (s : State) :
    (endIteration before s).cycles = s.cycles := rfl

/-! ## Who writes the record -/

/-- Every other instruction builds its next state from operations that leave the record alone. -/
theorem exec_fatal (hi : i.wellFormed = true) (h : exec i s = .next t) :
    t.fatal = s.fatal ∨ ∃ op, i = .illegal op := by
  cases i
  case illegal op => exact .inr ⟨op, rfl⟩
  all_goals left
  case prefixCb => cases hi
  case reti => cases h; rfl
  case jpNzNn | jpZNn | jpNcNn | jpCNn | jrNzDisp | jrZDisp | jrNcDisp | jrCDisp | callNzNn | callZNn | callNcNn
      | callCNn | retNz | retZ | retNc | retC =>
    exact next_of_ite (P := fun u => u.fatal = s.fatal) h (by simp) rfl
  all_goals
    obtain rfl := finish_eq_next h
    simp

/-! ## A tick of no cycles -/

theorem Ppu.held_eq_self (p : Ppu) (h : p.acc = 0 ∧ p.ly = 0 ∧ p.mode = .oamScan ∧ p.selected = []) :
    { p with acc := 0, ly := 0, mode := .oamScan, selected := [] } = p := by
  cases p
  obtain ⟨rfl, rfl, rfl, rfl⟩ := h
  rfl

/-- With no cycles to add, the PPU's tick leaves a settled PPU, or a held one, as it is (R299). -/
theorem ppuTick_zero (hsettled : s.ppu.acc < s.ppu.mode.threshold)
    (hheld : bitOf s.io.lcdc 7 = false →
      s.ppu.acc = 0 ∧ s.ppu.ly = 0 ∧ s.ppu.mode = .oamScan ∧ s.ppu.selected = []) : ppuTick 0 s = s := by
  cases hon : bitOf s.io.lcdc 7 with
  | true => exact ppuTick_below hon hsettled
  | false =>
    rw [ppuTick_off 0 hon]
    exact congrArg (fun p : Ppu => { s with ppu := p }) (s.ppu.held_eq_self (hheld hon))

/-! ## The tick that writes the record -/

/-- `s` after an illegal byte `op` at `pc`: the record, `pc` past the byte, no cycles (R286). -/
def State.afterIllegal (s : State) (op : Byte) : State :=
  { s with
    regs.pc := s.regs.pc + 1
    runState := .running
    fatal := some { kind := .unknownOpcode, address := s.regs.pc, opcode := op }
    cycles := 0 }

section
variable (s : State) (op : Byte)

@[simp] theorem State.afterIllegal_regs : (s.afterIllegal op).regs = { s.regs with pc := s.regs.pc + 1 } := rfl
@[simp] theorem State.afterIllegal_fatal :
    (s.afterIllegal op).fatal = some { kind := .unknownOpcode, address := s.regs.pc, opcode := op } := rfl
@[simp] theorem State.afterIllegal_mem : (s.afterIllegal op).mem = s.mem := rfl
@[simp] theorem State.afterIllegal_io : (s.afterIllegal op).io = s.io := rfl
@[simp] theorem State.afterIllegal_ppu : (s.afterIllegal op).ppu = s.ppu := rfl
@[simp] theorem State.afterIllegal_frameReady : (s.afterIllegal op).frameReady = s.frameReady := rfl
@[simp] theorem State.afterIllegal_cycles : (s.afterIllegal op).cycles = 0 := rfl

end

/-- A tick that writes the record fetched an illegal byte, moved `pc` past it and did nothing else. -/
theorem processorTick_fatal (hnone : s.fatal = none) (h : processorTick s = .next u) (hu : u.fatal ≠ none) :
    ∃ op ∈ illegalBytes, s.read8 s.regs.pc = op ∧ u = s.afterIllegal op := by
  rcases processorTick_cases s with ⟨k, _, htick⟩ | ⟨_, _, _, htick⟩ | ⟨_, _, htick⟩
  · cases htick.symm.trans h
    exact absurd hnone hu
  · cases htick.symm.trans h
    exact absurd (by simp [serviceInterrupt, hnone]) hu
  · obtain ⟨i, rest, hdecode⟩ := decode_three (s.read8 s.regs.pc) (s.read8 (s.regs.pc + 1)) (s.read8 (s.regs.pc + 2))
    obtain ⟨hwf, hbytes, _⟩ := decode_sound hdecode
    have hfetch : s.fetchDecode = (i, (encode i).length) := decodeAt_of_decode hdecode
    have hexec : exec i (({ s with runState := .running } : State).advance (encode i).length) = .next u := by
      rw [← htick.symm.trans h, fetchExecute, State.fetchDecode_setRunning, hfetch]
    rcases exec_fatal hwf hexec with hsame | ⟨op, rfl⟩
    · exact absurd (hsame.trans hnone) hu
    · refine ⟨op, List.contains_iff_mem.1 hwf, List.head_eq_of_cons_eq hbytes, ?_⟩
      have hrecord := unknownOpcode_of_none (s := ({ s with runState := .running } : State).advance 1) hnone op
      cases hrecord.symm.trans hexec
      simp [State.advance, State.setPc, State.afterIllegal]

/-! ## The statement -/

/-- Settles O29: the tick by `processorTick_fatal`; it returned no cycles, so the PPU's tick changes nothing. -/
theorem fatalIterationEndsRun : Obligations.FatalIterationEndsRun := by
  unfold Obligations.FatalIterationEndsRun
  intro s t hs hnone h hfatal
  obtain ⟨_, u, hu, _, rfl⟩ := step_cases h
  obtain ⟨op, hop, hread, rfl⟩ := processorTick_fatal (by simpa using hnone) hu (by simpa using hfatal)
  have hppu : ppuTick 0 ((beginIteration s).afterIllegal op) = (beginIteration s).afterIllegal op :=
    ppuTick_zero (by simpa using hs.settled) (by simpa using hs.display_off)
  rw [State.afterIllegal_cycles, hppu, hnone]
  exact ⟨⟨op, hop, by simpa using hread, by simp⟩, by simp [endIteration_report],
    by simp [endIteration_stopFlag, endIteration_report], by simp, by simp, by simp, by simp, by simp⟩

end Sys2Proof.Machine
end

section
/-!
PROOFS. The reset state has the invariant (R401).
-/

namespace Sys2Proof.Machine

variable {cfg : Config}

theorem wf_romImage (h : cfg.valid) : Memory.wf (cfg.cartImage.filter fun cell => cell.1 < 0x8000) = true :=
  Memory.wfAbove_filter _ h.2

theorem stored_romImage {cell : Host.Cell} (h : cell ∈ cfg.cartImage.filter fun cell => cell.1 < 0x8000) :
    Stored cell := by
  have hlow : cell.1 < 0x8000 := by simpa using (List.mem_filter.1 h).2
  refine ⟨by omega, targetOf_cell_of_region ?_⟩
  rw [regionOf_rom.2 (by rw [BitVec.toNat_ofNat]; omega)]
  simp

theorem wf_atReset (h : cfg.valid) : Memory.wf (Memory.atReset cfg) = true := by
  unfold Memory.atReset
  cases cfg.bootImage with
  | none => exact wf_romImage h
  | some image => exact Memory.wf_copy _ _ (wf_romImage h)

/-- Storage at reset lists addresses of the ROM window alone. -/
theorem stored_atReset {cell : Host.Cell} (h : cell ∈ Memory.atReset cfg) : Stored cell := by
  unfold Memory.atReset at h
  cases himage : cfg.bootImage with
  | none => exact stored_romImage (by simpa [himage] using h)
  | some image =>
    simp only [himage] at h
    rcases Memory.mem_copy h with ⟨_, hlow⟩ | hrom
    · rw [Memory.length_slice] at hlow
      exact Stored.of_nat (.inl (by omega))
    · exact stored_romImage hrom

theorem Tile.blank_shaped : Tile.shaped Tile.blank := by unfold Tile.shaped; decide

theorem resetWith_inv (h : cfg.valid) : (State.resetWith cfg).Inv where
  lines := h.1
  mem_wf := wf_atReset h
  mem_cells := fun _ => stored_atReset
  request := BitVec.zero_and
  stat_select := by
    change (if cfg.bootImage.isSome then IoRegs.zero else IoRegs.postBoot).statSel &&& 0x87 = 0
    split <;> rfl
  line := Nat.lt_of_lt_of_le (by decide : 0 < 144) (Nat.le_add_right _ _)
  vblank := ⟨nofun, nofun⟩
  settled := (by decide : 0 < 80)
  sprites := Nat.zero_le _
  sprite_index := ⟨List.Pairwise.nil, nofun⟩
  frame := ⟨List.length_replicate, fun _ hrow => List.eq_of_mem_replicate hrow ▸ List.length_replicate⟩
  bg_tiles := ⟨List.length_replicate, fun _ ht => List.eq_of_mem_replicate ht ▸ Tile.blank_shaped⟩
  obj_tiles := ⟨List.length_replicate, fun _ ht => List.eq_of_mem_replicate ht ▸ Tile.blank_shaped⟩
  fatal_ends := nofun
  reported := nofun
  frame_request := nofun
  overlay := id
  display_off := fun _ => ⟨rfl, rfl, rfl, rfl⟩

/-- Settles O58: `resetWith_inv`; the default parameters are valid. -/
theorem resetMeetsInvariant : Obligations.ResetMeetsInvariant := by
  unfold Obligations.ResetMeetsInvariant
  exact ⟨fun _ => resetWith_inv, resetWith_inv ⟨by decide, rfl⟩⟩

end Sys2Proof.Machine
end
